-- ==== Sys2Proof/Word.lean ====
section
/-! DEFINITION. The words and tables the model is written in: bytes, eight-member sets and tables of a fixed number of
entries. -/

namespace Sys2Proof

/-- One byte of the serial line, of a frame or of the store memory. -/
abbrev Byte := BitVec 8

/-- A set of eight members (zones, lines, floors or groups), member m as bit m (chapter 11, section 11.4). -/
abbrev Set8 := BitVec 8

/-- A table of exactly `n` entries, numbered from 0. -/
structure Tab (n : Nat) (α : Type) where
  items : List α
  size : items.length = n
deriving DecidableEq, Repr

/-- The table with every entry equal to `x`. -/
def Tab.fill {α : Type} (n : Nat) (x : α) : Tab n α :=
  ⟨List.replicate n x, List.length_replicate⟩

/-- Entry `i`; the type's default value where the table has no such entry. -/
def Tab.get {n : Nat} {α : Type} [Inhabited α] (t : Tab n α) (i : Nat) : α :=
  t.items.getD i default

/-- The table with entry `i` replaced; unchanged where it has no such entry. -/
def Tab.put {n : Nat} {α : Type} (t : Tab n α) (i : Nat) (x : α) : Tab n α :=
  ⟨t.items.set i x, by rw [List.length_set]; exact t.size⟩

/-- Every entry changed by `f`. -/
def Tab.map {n : Nat} {α β : Type} (f : α → β) (t : Tab n α) : Tab n β :=
  ⟨t.items.map f, by rw [List.length_map]; exact t.size⟩

/-- The table whose entry `i` is `f i`. -/
def Tab.make {α : Type} (n : Nat) (f : Nat → α) : Tab n α :=
  ⟨(List.range n).map f, by rw [List.length_map, List.length_range]⟩

/-- Entry `i` changed by `f`. -/
def Tab.modify {n : Nat} {α : Type} [Inhabited α] (t : Tab n α) (i : Nat) (f : α → α) : Tab n α :=
  t.put i (f (t.get i))

/-- `x` brought to the nearer limit of `lo` to `hi` (R194). -/
def clamp (lo hi x : Nat) : Nat :=
  if x < lo then lo else if hi < x then hi else x

/-- The least number of pieces of `m` that hold `x`: ceil(x / m). -/
def ceilDiv (x m : Nat) : Nat := (x + m - 1) / m

/-- (a − b) mod m for positions or phases on a circle of length `m`. -/
def circSub (a b m : Nat) : Nat := (a % m + (m - b % m)) % m

/-- The members 0 to 7 of a set, in ascending order. -/
def Set8.members (x : Set8) : List Nat := (List.range 8).filter (fun i => x.getLsbD i)

/-- The set with member `m` put in. -/
def Set8.insert (x : Set8) (m : Nat) : Set8 := x ||| BitVec.ofNat 8 (2 ^ m)

/-- The two sets have a member in common. -/
def Set8.meets (x y : Set8) : Bool := x &&& y != 0#8

end Sys2Proof
end

