-- ==== Sys2Proof/Config.lean ====
section
/-! DEFINITION. What one implementation of the part fixes and the manual does not state: the vendor code and the
revision number of IDENTIFY and what a reset that cuts a write leaves (free values, without a body), and what a store
byte that nothing has written reads as. -/

namespace Sys2Proof.Config

/-- The vendor code of R198. The manual gives no value: a free value (log entry 1). -/
opaque vendorCode : BitVec 16

/-- The revision number of R198. The manual gives no value: a free value (log entry 1). -/
opaque revision : BitVec 8

/-- How many bytes of the write transfer in progress a reset leaves written, as a function of the count of commands
taken. The manual says "partly written" (R149) and no more: a free value (log entry 3). -/
opaque cutCount : Nat → Nat

/-- How the check word of a section that a reset has cut fails, as a function of the count of commands taken. The manual
says that the check fails (R144, R202) and not how: a free value (log entry 3). -/
opaque cutCheck : Nat → Nat

/-- What a byte of the store memory reads as while nothing has written it.
DESIGN CHOICE (log entry 2, unsafe): the manual gives no contents for a new store memory. -/
def blankByte : Byte := 0xFF#8

end Sys2Proof.Config
end

