-- ==== Sys2Proof/Syntax.lean ====
section
/-! DEFINITION. The commands the part takes: one constructor of `Instr` for each row of spec/opcode_table.json, in the
table's order. A request carries the tag of its frame and its parameters in the order its rule names them; a field or
timer event carries the number of the bridge, shutter, line, station or channel it concerns. -/

namespace Sys2Proof

/-- A single member of a kind, or the ALL value in its place (R194; one byte, 0xFF for ALL). -/
inductive Member where
  | one (n : Nat)
  | all
deriving DecidableEq, Repr, Inhabited

/-- The two program channels (R154). -/
inductive Chan where
  | a
  | b
deriving DecidableEq, Repr, Inhabited

/-- Who raised a call: a station, or the host over the link (section 6.3). -/
inductive Origin where
  | station (n : Nat)
  | link
deriving DecidableEq, Repr, Inhabited

/-- The fifteen loop timing values, in the order of section 2.2. -/
structure LoopTiming where
  pTol : Nat
  standstill : Nat
  tMin : Nat
  tMax : Nat
  tStart : Nat
  tNom : Nat
  tcMin : Nat
  tcMax : Nat
  decel : Nat
  rDrain : Nat
  drainNormal : Nat
  drainFire : Nat
  creepLimit : Nat
  creepDelay : Nat
  creepStop : Nat
deriving DecidableEq, Repr, Inhabited

/-- The five bridge values, in the order of section 5.9. -/
structure BridgeParams where
  sweep : Nat
  stall : Nat
  openThr : Nat
  dwell : Nat
  grace : Nat
deriving DecidableEq, Repr, Inhabited

/-- The five bell timing values, in the order of section 6.8. -/
structure BellTiming where
  onTime : Nat
  strokeGap : Nat
  groupGap : Nat
  codeGap : Nat
  firePeriod : Nat
deriving DecidableEq, Repr, Inhabited

/-- What DEFINE ZONE carries after the zone number (R55). -/
structure ZoneReq where
  enable : Nat
  floor : Nat
  t1 : Nat
  t2 : Nat
  t3 : Nat
  h : Nat
  k : Nat
deriving DecidableEq, Repr, Inhabited

/-- What DEFINE SHUTTER carries after the shutter id (R69); the kind is its code of section 11.5. -/
structure ShutterReq where
  floor : Nat
  kind : Nat
  opening : Option Nat
  zones : Set8
  groups : Set8
  priority : Nat
  travel : Nat
  retryDelay : Nat
  retryLimit : Nat
  firePause : Nat
  pauseLimit : Nat
deriving DecidableEq, Repr, Inhabited

/-- The step a DEFINE STEP carries (R171): the action is its code of section 11.5, and each parameter is present or
absent. -/
structure StepReq where
  offset : Int
  action : Nat
  phrases : Option (List Nat)
  zones : Option Set8
  strokes : Option Nat
  lines : Option Set8
  group : Option Nat
  floors : Option Set8
  hold : Option Nat
deriving DecidableEq, Repr, Inhabited

/-- The commands: every row of the table of operations and events. -/
inductive Instr where
  | powerOn
  | resetPin
  | serialByteReceived (b : Byte)
  | frameGapTimer
  | replySent
  | identify (tag : Byte)
  | status (tag : Byte)
  | fetchEvents (tag : Byte) (count : Nat)
  | clearFaults (tag : Byte) (kind : Nat) (target : Member)
  | setLinkRate (tag : Byte) (rate : Nat)
  | saveSettings (tag : Byte)
  | restart (tag : Byte)
  | defineLoop (tag : Byte) (n l wMin : Nat)
  | defineOpening (tag : Byte) (opening sill below above : Nat)
  | defineLoopTiming (tag : Byte) (v : LoopTiming)
  | loopStart (tag : Byte)
  | loopDrain (tag : Byte)
  | loopStop (tag : Byte) (force : Nat)
  | loopCreep (tag : Byte)
  | landingLockout (tag : Byte) (landing : Member) (setting : Nat)
  | queryLoop (tag : Byte)
  | queryCars (tag : Byte)
  | queryLanding (tag : Byte) (landing : Member)
  | defineZone (tag : Byte) (zone : Nat) (v : ZoneReq)
  | queryZones (tag : Byte)
  | fireReset (tag : Byte)
  | defineShutter (tag : Byte) (shutter : Nat) (v : ShutterReq)
  | shutterClose (tag : Byte) (kind : Nat) (member : Member)
  | shutterOpen (tag : Byte) (kind : Nat) (member : Member)
  | shutterTest (tag : Byte) (shutter : Nat)
  | queryShutter (tag : Byte) (shutter : Member)
  | defineBridges (tag : Byte) (v : BridgeParams)
  | queryBridges (tag : Byte)
  | defineCode (tag : Byte) (code : Nat) (groups : List Nat) (urgency : Nat) (repeats : Option (Nat × Nat))
  | defineStation (tag : Byte) (station enable : Nat) (lineCode : Option (Nat × Nat))
  | defineBellTiming (tag : Byte) (v : BellTiming)
  | bellRing (tag : Byte) (line : Member) (code : Nat)
  | bellAnswer (tag : Byte) (line : Member) (code : Nat)
  | bellSilence (tag : Byte) (line : Member)
  | queryBellLine (tag : Byte) (line : Member) (first : Nat)
  | phraseOpen (tag : Byte) (phrase length : Nat)
  | phraseData (tag : Byte) (phrase offset : Nat) (data : List Byte)
  | phraseClose (tag : Byte) (phrase : Nat)
  | phraseDelete (tag : Byte) (phrase : Nat)
  | queryPhrases (tag : Byte) (first : Nat)
  | defineEvacuation (tag : Byte) (phrases : List Nat)
  | announce (tag : Byte) (zones : Set8) (phrases : List Nat) (repeats : Nat)
  | announceCancel (tag : Byte) (handle : Nat)
  | queryAnnouncements (tag : Byte)
  | setClock (tag : Byte) (seconds weekday : Nat)
  | defineClosingTimes (tag : Byte) (times : List (Option Nat))
  | defineStep (tag : Byte) (slot : Nat) (step : Option StepReq)
  | closingStart (tag : Byte)
  | closingDelay (tag : Byte) (minutes : Nat)
  | closingAbort (tag : Byte)
  | queryClosing (tag : Byte) (first : Nat)
  | countPulse
  | pitchPulse
  | datumPulse
  | standstillTimer
  | windowTimer
  | drainTimer
  | creepDelayTimer
  | scanEvent (inputs : BitVec 256) (check : BitVec 16)
  | conversionComplete (reading : BitVec 10)
  | openGraceTimer (bridge : Fin 4)
  | travelTimer (shutter : Fin 24)
  | retryTimer (shutter : Fin 24)
  | pauseTimer (shutter : Fin 24)
  | checkSettingEnd (bridge : Fin 4) (levelA levelB : Bool)
  | dwellTimer (bridge : Fin 4)
  | sweepTimer
  | strikerOnTimeEnd (line : Fin 8)
  | lineTimer (line : Fin 8)
  | callDueTime (line : Fin 8) (origin : Origin) (code : Nat)
  | flashTimer (station : Fin 48)
  | writeTransferDone
  | blockReadDone
  | blockPlayEnd (channel : Chan)
  | passGapTimer (channel : Chan)
  | secondTick
  | holdTimer
  | audioSample
deriving DecidableEq, Repr

end Sys2Proof
end

