-- ==== Sys2Proof/Machine/State.lean ====
section
/-! DEFINITION. The state of the part as plain data: the settings, the live records of the ten blocks, the store memory,
and the queue of the commands that wait. What another record already determines (the loop outputs, the landing lamps,
the selector relays, the clear list, the grant queue, the attention line, a phrase's page list) is not stored a second
time: the operations compute it. -/

namespace Sys2Proof.Machine

/-! ### Settings: every definition and tuning value the host can set (section 10.6) -/

/-- The car count N, the landing count L and the minimum clear width w_min, set together by DEFINE LOOP (R1). -/
structure Dims where
  n : Nat
  l : Nat
  wMin : Nat
deriving DecidableEq, Repr, Inhabited

/-- A defined opening: its sill position and its bands below and above (R2). -/
structure Opening where
  sill : Nat
  below : Nat
  above : Nat
deriving DecidableEq, Repr, Inhabited

/-- The geometry record of section 1.1. -/
structure Geometry where
  dims : Option Dims
  openings : Tab 16 (Option Opening)
deriving DecidableEq, Repr

/-- A fire zone's definition record (section 3.2). -/
structure ZoneDef where
  enable : Bool
  floor : Nat
  t1 : Nat
  t2 : Nat
  t3 : Nat
  h : Nat
  k : Nat
deriving DecidableEq, Repr, Inhabited

/-- Shutter kinds (section 4.1). -/
inductive ShutterKind where
  | opening
  | divider
  | stair
deriving DecidableEq, Repr, Inhabited

/-- A shutter's definition record (section 4.1). -/
structure ShutterDef where
  floor : Nat
  kind : ShutterKind
  opening : Option Nat
  zones : Set8
  groups : Set8
  priority : Nat
  travel : Nat
  retryDelay : Nat
  retryLimit : Nat
  firePause : Nat
  pauseLimit : Nat
deriving DecidableEq, Repr, Inhabited

/-- A defined stroke code (section 6.1). -/
structure CodeDef where
  groups : List Nat
  urgency : Nat
  maxRepeats : Nat
  interval : Nat
deriving DecidableEq, Repr, Inhabited

/-- A defined station: its line and its code (section 6.2). -/
structure StationDef where
  line : Nat
  code : Nat
deriving DecidableEq, Repr, Inhabited

/-- The action of a closing step with its parameters (section 9.2). -/
inductive StepAction where
  | announce (phrases : List Nat) (zones : Set8)
  | strokes (count : Nat) (lines : Set8)
  | loopDrain
  | loopStop (hold : Nat)
  | shuttersClose (group hold : Nat)
  | landingsLock (floors : Set8)
deriving DecidableEq, Repr, Inhabited

/-- A closing step: its offset from the closing time in minutes, and its action (section 9.2). -/
structure ClosingStep where
  offset : Int
  action : StepAction
deriving DecidableEq, Repr, Inhabited

/-- The live settings: what SAVE SETTINGS stores and the settings load takes (section 10.6). -/
structure Settings where
  geom : Geometry
  timing : LoopTiming
  zones : Tab 8 ZoneDef
  shutters : Tab 24 (Option ShutterDef)
  bridges : BridgeParams
  codes : Tab 16 (Option CodeDef)
  stations : Tab 48 (Option StationDef)
  bells : BellTiming
  evac : Option (List Nat)
  times : Tab 7 (Option Nat)
  steps : Tab 16 (Option ClosingStep)
deriving DecidableEq, Repr

/-! ### The part's time base -/

/-- The running time and the instants the manual fixes on it. `now` counts milliseconds from the end of the last reset
(section 6.3). `seq` counts the commands taken: it tells two commands of one millisecond apart (a field of the model's
own, log entry 5). `scanDue` and `convDue` are when the next scan (R205) and conversion (R54) complete; `samples` counts
the 125 µs sample times (R154). -/
structure TimeBase where
  now : Nat
  seq : Nat
  scanDue : Nat
  convDue : Nat
  samples : Nat
deriving DecidableEq, Repr, Inhabited

/-! ### Loop Controller (chapters 1 and 2) -/

/-- The loop states of section 2.1. -/
inductive LoopState where
  | unconfigured | unreferenced | referencing | starting | running | draining
  | stopping | braking | parked | stoppedFoul | creeping | faultStop
deriving DecidableEq, Repr, Inhabited

/-- A car's occupancy (R16). -/
inductive Occ where
  | unknown
  | count (n : Nat)
deriving DecidableEq, Repr, Inhabited

/-- A sill watch (R14). -/
inductive Watch where
  | idle
  | armed
  | met
deriving DecidableEq, Repr, Inhabited

/-- One recorded change of a curtain beam (R17). -/
structure BeamChange where
  inner : Bool
  broken : Bool
deriving DecidableEq, Repr, Inhabited

/-- The snapshot a recording takes at its first inner-beam break (R18). -/
inductive Snapshot where
  | notTaken
  | car (k : Nat)
  | noCar
  | unreferenced
deriving DecidableEq, Repr, Inhabited

/-- A curtain recogniser (R17). -/
inductive Recogniser where
  | waitClear
  | rest
  | recording (entries : List BeamChange) (snap : Snapshot)
deriving DecidableEq, Repr, Inhabited

/-- The referencing stop request (R37). -/
inductive RefStop where
  | none
  | drain
  | stop
deriving DecidableEq, Repr, Inhabited

/-- The drain record of section 2.6, but for its timer, which REFERENCING also holds. -/
structure Drain where
  fire : Bool
  stopPending : Bool
  drained : Bool
  travel : Nat
  revs : Nat
deriving DecidableEq, Repr, Inhabited

/-- A stop plan (R43). -/
structure StopPlan where
  speed : Nat
  braking : Nat
  targetPhase : Nat
  target : Nat
  command : Nat
deriving DecidableEq, Repr, Inhabited

/-- The creep target phase, the creep target position and the creep distance (R48). -/
structure CreepPlan where
  targetPhase : Nat
  target : Nat
  distance : Nat
deriving DecidableEq, Repr, Inhabited

/-- Loop fault causes (section 2.9). -/
inductive LoopCause where
  | overspeed | stall | startTimeout | pitchSlip | datumSlip | datumMissing | sillMismatch | shaftCrossing
  | landingStop | turnFlap | shutterIntrusion | fieldLost
deriving DecidableEq, Repr, Inhabited

/-- The loop's fault record: cause and optional subject (section 2.9). -/
structure LoopFaultRec where
  cause : LoopCause
  subject : Option Nat
deriving DecidableEq, Repr, Inhabited

/-- The tracking state of chapter 1 and the running records of chapter 2. A timer is the running time at which it
expires, or none while it does not run. -/
structure Loop where
  st : LoopState
  c : Nat
  refValid : Bool
  refPitch : Nat
  cars : List Occ
  watches : Tab 16 Watch
  recognisers : Tab 16 Recogniser
  lockout : Tab 8 Bool
  standstill : Bool
  standTimer : Option Nat
  lastPitch : Option Nat
  interval : Option Nat
  closing : Nat
  window : Option Nat
  refStop : RefStop
  fireDrainPending : Bool
  drain : Option Drain
  drainTimer : Option Nat
  plan : Option StopPlan
  lastError : Option Int
  attempts : Nat
  exhausted : Bool
  creepDelay : Option Nat
  creepPlan : Option CreepPlan
  fault : Option LoopFaultRec
deriving DecidableEq, Repr

/-! ### Fire Zone Monitor (chapter 3) -/

/-- Fire zone states (section 3.4). -/
inductive ZoneState where
  | disabled | normal | alarm | openFault | shortFault
deriving DecidableEq, Repr, Inhabited

/-- Bands of a converter reading (R57). -/
inductive Band where
  | short | normal | alarm | open
deriving DecidableEq, Repr, Inhabited

/-- A zone's live record: state, confirmation run and latest reading (section 3.2). -/
structure Zone where
  st : ZoneState
  run : Option (Band × Nat)
  latest : Option Nat
deriving DecidableEq, Repr, Inhabited

/-- The zones, the fire latch, the alarmed set, and the converter channel that is converted next (R54). -/
structure Fire where
  zones : Tab 8 Zone
  latch : Bool
  alarmed : Set8
  channel : Nat
deriving DecidableEq, Repr

/-! ### Shutter Controller (chapter 4) -/

/-- Motion states (section 4.2). -/
inductive Motion where
  | open | closed | lowering | raising | stoppedMid
deriving DecidableEq, Repr, Inhabited

/-- What a demand asks for (section 4.3). -/
inductive DemandDir where
  | close | open | test
deriving DecidableEq, Repr, Inhabited

/-- Demand classes (section 4.3). -/
inductive DemandClass where
  | fire | closing | host
deriving DecidableEq, Repr, Inhabited

/-- Demand statuses (section 4.3). -/
inductive DemandStatus where
  | heldByLoop | waitingBridge | checking | moving | recovering | paused | dwelling | retryWait
deriving DecidableEq, Repr, Inhabited

/-- A demand in force: direction, class, status, placement time (the running time, and the command that placed it) and
the single-attempt flag. -/
structure Demand where
  dir : DemandDir
  cls : DemandClass
  status : DemandStatus
  placedAt : Nat
  placedSeq : Nat
  single : Bool
deriving DecidableEq, Repr, Inhabited

/-- Check results and shutter faults (section 11.5). -/
inductive CheckResult where
  | normal | openWinding | shortSupply | shortGround | unclassified
  | openCircuit | travelTimeout | obstructionRetries | limitLost | limitsBoth
deriving DecidableEq, Repr, Inhabited

/-- A shutter's live record (section 4.2); the connected bridge stands in the bridge record. -/
structure Shutter where
  motion : Motion
  demand : Option Demand
  obstructions : Nat
  fault : Option CheckResult
  lastCheck : Option (CheckResult × Option Nat)
  travel : Option Nat
  retry : Option Nat
  pause : Option Nat
deriving DecidableEq, Repr

/-- The live record of a shutter right after a reset (R99). -/
def Shutter.idle : Shutter :=
  { motion := .stoppedMid, demand := none, obstructions := 0, fault := none, lastCheck := none,
    travel := none, retry := none, pause := none }

/-! ### Drive Bridge Unit (chapter 5) -/

/-- Check purposes (section 5.1). -/
inductive Purpose where
  | preTravel | test | sweep
deriving DecidableEq, Repr, Inhabited

/-- A bridge's state with the fields each state has (section 5.1). In CHECKING: purpose, the levels (A, B) read so far,
of which the number gives the setting in force, and the end of that setting. In DRIVING: direction, stall run, open run
and the grace timer. In DWELL: the dwell timer (none once elapsed), the hold, and whether the dwell follows a travel
(R75). -/
inductive BridgeState where
  | free
  | checking (purpose : Purpose) (levels : List (Bool × Bool)) (due : Nat)
  | driving (raise : Bool) (stallRun openRun : Nat) (grace : Option Nat)
  | dwell (timer : Option Nat) (hold : Bool) (travelled : Bool)
  | outOfService
deriving DecidableEq, Repr, Inhabited

/-- The settings of a check in their order (section 5.3). -/
inductive CheckSetting where
  | rest | liftA | liftB
deriving DecidableEq, Repr, Inhabited

/-- What a bridge puts on the two terminals of its motor (sections 5.1 and 5.3). -/
inductive BridgeOutput where
  /-- Off: both terminals float. -/
  | floating
  /-- The weak test drivers: each terminal, A and B, is pulled high (true) or low (false). -/
  | test (a b : Bool)
  /-- Full drive with the polarity that raises or lowers. Which terminal that polarity makes high the manual does not say,
  and the model does not choose it (log entry 34). -/
  | drive (raise : Bool)
  /-- Both terminals are shorted to the low rail. -/
  | shorted
deriving DecidableEq, Repr, Inhabited

/-- A bridge record; `withdrawn` holds the two shutters of a pending withdrawal (R113). -/
structure Bridge where
  st : BridgeState
  shutter : Option Nat
  latest : Option Nat
  suspect : Option Nat
  withdrawn : Option (Nat × Nat)
deriving DecidableEq, Repr

/-- A bridge right after a reset (R100). -/
def Bridge.idle : Bridge :=
  { st := .free, shutter := none, latest := none, suspect := none, withdrawn := none }

/-- The bridges, the sweep cursor, the sweep-due flag and the sweep timer. -/
structure Bridges where
  units : Tab 4 Bridge
  cursor : Nat
  sweepDue : Bool
  sweepTimer : Option Nat
deriving DecidableEq, Repr

/-! ### Bell Controller (chapter 6) -/

/-- States of a call (section 6.3); SOUNDING keeps the state before sounding: whether it was AWAITING_REPEAT. -/
inductive CallState where
  | waiting
  | sounding (wasAwaiting : Bool)
  | awaitingRepeat
deriving DecidableEq, Repr, Inhabited

/-- A call. `due` is present once the call has sounded; `dueTaken` says that its due-time event has been taken, so that
the call is eligible (R124). `raisedSeq` is the command that created it. -/
structure Call where
  origin : Origin
  code : Nat
  urgency : Nat
  st : CallState
  repeats : Nat
  due : Option Nat
  dueTaken : Bool
  raisedAt : Nat
  raisedSeq : Nat
deriving DecidableEq, Repr, Inhabited

/-- Bell line states (section 6.4). -/
inductive LineState where
  | idle | call | strokes | gap | fireRinging | silenced
deriving DecidableEq, Repr, Inhabited

/-- A line record with its queue. `on` is the phase of the position; `striker` is the end of the on-time while the
striker is on; `deferred` says that what the line state begins at once waits for that end (R123). -/
structure Line where
  st : LineState
  queue : List Call
  pattern : List Nat
  group : Nat
  stroke : Nat
  on : Bool
  left : Nat
  pending : Option Nat
  striker : Option Nat
  timer : Option Nat
  deferred : Bool
deriving DecidableEq, Repr

/-- A line right after a reset (R123). -/
def Line.rest : Line :=
  { st := .idle, queue := [], pattern := [], group := 0, stroke := 0, on := false, left := 0, pending := none,
    striker := none, timer := none, deferred := false }

/-- The steady states of a station lamp (R119). -/
inductive LampState where
  | off | pending | unanswered
deriving DecidableEq, Repr, Inhabited

/-- A station's lamp record: steady state and flash timer (R119). -/
structure Lamp where
  steady : LampState
  flash : Option Nat
deriving DecidableEq, Repr, Inhabited

/-- The bell lines and the station lamps. -/
structure Bells where
  lines : Tab 8 Line
  lamps : Tab 48 Lamp
deriving DecidableEq, Repr

/-! ### Phrase Store (chapter 7) -/

/-- A phrase record (section 7.2); the page list is what the page map gives (R140). -/
inductive Phrase where
  | empty
  | loading (length received : Nat)
  | ready (length inUse : Nat)
deriving DecidableEq, Repr, Inhabited

/-- The directory state of the present start (R146). -/
inductive DirState where
  | good | recovered | lost
deriving DecidableEq, Repr, Inhabited

/-- A playback read: the block's number, its first store address and its length, and the command that asked for it. -/
structure ReadReq where
  block : Nat
  addr : Nat
  len : Nat
  seq : Nat
deriving DecidableEq, Repr, Inhabited

/-- One write transfer: bytes from a store address on. -/
structure Chunk where
  addr : Nat
  bytes : List Byte
deriving DecidableEq, Repr, Inhabited

/-- What a write stream is for, and so what is due when its last transfer is complete. -/
inductive StreamKind where
  | directory (payload : List Byte)
  | directoryReady (phrase : Nat) (payload : List Byte)
  | data (phrase count : Nat)
  | settings
deriving DecidableEq, Repr, Inhabited

/-- The write stream: the transfers not yet complete, in order. -/
structure Stream where
  kind : StreamKind
  chunks : List Chunk
deriving DecidableEq, Repr, Inhabited

/-- The transfer in progress at the store port: a read of a channel (its bytes discarded at its end when the channel has
stopped meanwhile, R163), or the first transfer of the write stream. -/
inductive Transfer where
  | read (ch : Chan) (req : ReadReq) (discard : Bool)
  | write
deriving DecidableEq, Repr, Inhabited

/-- The Phrase Store: phrase records, page map, directory state and store port. -/
structure PhraseStore where
  phrases : Tab 64 Phrase
  owners : Tab 256 (Option Nat)
  dir : DirState
  busy : Option Transfer
  waitA : Option ReadReq
  waitB : Option ReadReq
  stream : Option Stream
deriving DecidableEq, Repr

/-! ### Announcement Controller (chapter 8) -/

/-- Announcement classes held in the table (section 8.2). -/
inductive AnnClass where
  | closing | general
deriving DecidableEq, Repr, Inhabited

/-- A record of the announcement table. It is PLAYING when a channel holds its handle, and QUEUED otherwise. -/
structure Ann where
  handle : Nat
  cls : AnnClass
  zones : Set8
  phrases : List Nat
  repeats : Nat
  restarts : Nat
  entry : Nat
deriving DecidableEq, Repr, Inhabited

/-- A block buffer (R161). -/
inductive Buffer where
  | empty
  | requested (block : Nat)
  | full (block : Nat) (bytes : List Byte)
deriving DecidableEq, Repr, Inhabited

/-- Channel states (section 8.1). -/
inductive ChanState where
  | idle | phrase | passGap
deriving DecidableEq, Repr, Inhabited

/-- A channel record with its audio output. `phrases` is the phrase list of the present pass, `granted` the phrase whose
begin was granted and not ended, `block` the block now playing or awaited, `nextBlock` the first not yet requested,
`startSeq` the command that started the announcement, `skipSeq` the command at which it skipped a phrase last (fields of the
model's own, log entries 5 and 59). -/
structure Channel where
  st : ChanState
  handle : Option Nat
  phrases : List Nat
  index : Nat
  offset : Nat
  passes : Nat
  yield : Bool
  granted : Option Nat
  block : Nat
  nextBlock : Nat
  buf0 : Buffer
  buf1 : Buffer
  gap : Option Nat
  skips : List Nat
  startSeq : Nat
  skipSeq : Option Nat
  sample : Byte
deriving DecidableEq, Repr

/-- A channel right after a reset: IDLE, every field cleared, the output at 128 (section 8.1). -/
def Channel.idle : Channel :=
  { st := .idle, handle := none, phrases := [], index := 0, offset := 0, passes := 0, yield := false, granted := none,
    block := 0, nextBlock := 0, buf0 := .empty, buf1 := .empty, gap := none, skips := [], startSeq := 0,
    skipSeq := none, sample := 128#8 }

/-- The announcement table, the routing, the channels and the wanted flag. -/
structure Announcer where
  table : List Ann
  lastHandle : Nat
  nextEntry : Nat
  routing : Tab 8 (Option Chan)
  chanA : Channel
  chanB : Channel
  wanted : Bool
deriving DecidableEq, Repr

/-! ### Closing Scheduler (chapter 9) -/

/-- The store clock. `tickDue` is when the next second tick comes, while the clock is SET (R168). -/
structure Clock where
  isSet : Bool
  seconds : Nat
  weekday : Nat
  tickDue : Nat
deriving DecidableEq, Repr, Inhabited

/-- Programme states (section 9.3). -/
inductive ProgState where
  | idle | armed | running | held | complete | aborted
deriving DecidableEq, Repr, Inhabited

/-- What a strokes request did on a line (R130). -/
inductive StrokesResult where
  | taken | pending | discarded
deriving DecidableEq, Repr, Inhabited

/-- Why a step was skipped, with what its result record keeps (R175 to R177); the outcome of an ANNOUNCE step is true
for FIRE_MODE and false for QUEUE_FULL. -/
inductive SkipReason where
  | stale
  | announceRefused (fireMode : Bool)
  | loopNotRunning (st : LoopState)
  | loopNotStopped (st : LoopState)
deriving DecidableEq, Repr, Inhabited

/-- What the result record of a step that is DONE keeps (R176 to R178). -/
inductive DoneInfo where
  | announced (handle : Nat)
  | strokes (lines : List (Nat × StrokesResult))
  | locked (landings : Set8)
  | drained
  | loopAt (st : LoopState)
  | shutters (placed satisfied refused reached : List Nat)
deriving DecidableEq, Repr, Inhabited

/-- What the result record of a step that is TIMED_OUT keeps (R179). -/
inductive TimeoutInfo where
  | loopAt (st : LoopState)
  | pendingShutters (ids : List Nat)
deriving DecidableEq, Repr, Inhabited

/-- A slot's result record. -/
inductive StepResult where
  | notReached
  | done (info : DoneInfo)
  | skipped (reason : SkipReason)
  | timedOut (info : TimeoutInfo)
  | aborted
deriving DecidableEq, Repr, Inhabited

/-- The mark of a watched shutter (R178); an ENDED one keeps whether it had reached CLOSED. -/
inductive WatchMark where
  | pending
  | ended (closed : Bool)
deriving DecidableEq, Repr, Inhabited

/-- The watch of a held SHUTTERS_CLOSE step: the watched shutters with their marks, and the lists of the shutters
satisfied at placement and refused (R178). -/
structure CloseWatch where
  shutters : List (Nat × WatchMark)
  satisfied : List Nat
  refused : List Nat
deriving DecidableEq, Repr, Inhabited

/-- The programme record of section 9.3. `pastMidnight` is set by a midnight taken while RUNNING or HELD, and cleared at
an arming and at CLOSING START (R181). -/
structure Programme where
  st : ProgState
  day : Option Nat
  reference : Int
  delay : Nat
  next : Option Nat
  hold : Option Nat
  watch : Option CloseWatch
  results : Tab 16 StepResult
  pastMidnight : Bool
deriving DecidableEq, Repr

/-! ### House Link Interface (chapter 10) -/

/-- Event kinds (section 11.6). -/
inductive EventKind where
  | startUp | fieldLost | fieldRestored
  | referenced | loopParked | loopFoul | loopFault | drainDone | drainTimeout | stopClamped | creepExhausted
  | overload | crossingUnattributed
  | zoneAlarm | zoneFault | zoneNormal | fireLatched | fireReset
  | shutterClosed | shutterOpened | shutterHeld | shutterObstructed | shutterFault | fireCloseImpossible
  | demandCancelled | checkResult | bridgeOut
  | callRefused | callUnanswered | callsCleared
  | announceDone | phraseSkipped | phraseReady | directoryLost
  | closingStarted | stepDone | stepSkipped | stepTimeout | closingComplete | closingAborted | closingMissed
deriving DecidableEq, Repr, Inhabited

/-- An event record (section 10.4): the detail is 0 to 65535; the time is the store clock's seconds, or none while the
clock is unset. -/
structure EventRec where
  kind : EventKind
  subject : Option Nat
  detail : Nat
  time : Option Nat
deriving DecidableEq, Repr, Inhabited

/-- Outcomes of a request (section 10.3). -/
inductive ReqOutcome where
  | done | accepted | clamped | malformed | unknownKind | badValue | scopeNotSingle | wrongState | fireMode
  | queueFull | noSpace | inUse | notReady | outOfOrder
deriving DecidableEq, Repr, Inhabited

/-- A composed reply: the kind with its highest bit set, the tag, the outcome, the summary byte and the payload
(R192). -/
structure Reply where
  kind : Byte
  tag : Byte
  outcome : ReqOutcome
  summary : Byte
  payload : List Byte
deriving DecidableEq, Repr, Inhabited

/-- The House Link Interface. `closed` is the framer state CLOSED; otherwise `kept` holds the bytes of the candidate, its
start byte first, and the framer hunts while it is empty (R189). `waiting` is the kind and tag of a request whose write
goes on, `reply` the reply being sent. `dropAgain` says that the dropped-frame flag has been set since that reply was
composed (R193). -/
structure Link where
  rate : Nat
  newRate : Option Nat
  closed : Bool
  kept : List Byte
  gap : Option Nat
  waiting : Option (Byte × Byte)
  reply : Option Reply
  restarting : Bool
  restarted : Bool
  dropped : Bool
  dropAgain : Bool
  eventsLost : Bool
  settingsDefault : Bool
  settingsChanged : Bool
  events : List EventRec
  lost : Nat
deriving DecidableEq, Repr

/-! ### Field Scan Interface (chapter 11) -/

/-- One input point: accepted value, raw value and the mark of awaiting fresh acceptance (R205). -/
structure InPoint where
  accepted : Option Bool
  raw : Option Bool
  awaiting : Bool
deriving DecidableEq, Repr, Inhabited

/-- The field scan: the input points, the output values the scan under way sends, those the cards have latched, the
mismatch count, the loss count and FIELD_LOST (R205, R206). Point number 16·card + position. -/
structure Field where
  inputs : Tab 256 InPoint
  sending : BitVec 256
  latched : BitVec 256
  mismatches : Nat
  losses : Nat
  lost : Bool
deriving DecidableEq, Repr

/-! ### The whole part -/

/-- The state of the part. `pending` is the queue of the commands that wait, first in first out; `store` the contents of
the external store memory as (address, byte) cells in canonical form. -/
structure State where
  pending : List Instr
  time : TimeBase
  cfg : Settings
  store : List Host.Cell
  loop : Loop
  fire : Fire
  shutters : Tab 24 Shutter
  bridges : Bridges
  bells : Bells
  phrases : PhraseStore
  ann : Announcer
  clock : Clock
  prog : Programme
  link : Link
  field : Field
deriving DecidableEq, Repr

/-- Why the part stops with a fault. The manual gives every command an effect in every state, so no meaning of this
model answers with a fault; the one constructor names the case the model would stop on. -/
inductive Fault where
  /-- An access to the store memory outside its 256 pages. Raised by no meaning: the page map and the fixed sections
  give addresses inside the memory only. Safe. -/
  | noSuchStoreAddress
deriving DecidableEq, Repr

/-- Why a command has no meaning. -/
inductive Refusal where
  /-- Raised by the arm of a command whose meaning the model does not give yet. Safe. -/
  | notModelled (mnemonic : String)
deriving DecidableEq, Repr

/-! ### Built-in defaults and reset -/

/-- The defaults of section 2.2. -/
def defaultTiming : LoopTiming :=
  { pTol := 4, standstill := 600, tMin := 6000, tMax := 14000, tStart := 15000, tNom := 9000, tcMin := 10000,
    tcMax := 45000, decel := 4, rDrain := 1, drainNormal := 300, drainFire := 90, creepLimit := 3, creepDelay := 2,
    creepStop := 6 }

/-- The defaults of section 3.2: disabled, floor 0, thresholds 100, 420, 900, h 12, k 3. -/
def defaultZone : ZoneDef :=
  { enable := false, floor := 0, t1 := 100, t2 := 420, t3 := 900, h := 12, k := 3 }

/-- The defaults of section 5.9. -/
def defaultBridges : BridgeParams := { sweep := 10, stall := 800, openThr := 20, dwell := 250, grace := 300 }

/-- The defaults of section 6.8. -/
def defaultBells : BellTiming :=
  { onTime := 80, strokeGap := 300, groupGap := 900, codeGap := 2500, firePeriod := 600 }

/-- The built-in defaults (R201). -/
def defaultSettings : Settings :=
  { geom := { dims := none, openings := Tab.fill 16 none }
    timing := defaultTiming
    zones := Tab.fill 8 defaultZone
    shutters := Tab.fill 24 none
    bridges := defaultBridges
    codes := Tab.fill 16 none
    stations := Tab.fill 48 none
    bells := defaultBells
    evac := none
    times := Tab.fill 7 none
    steps := Tab.fill 16 none }

/-- The directory section as a start writes it that has found the directory lost (R144, R146): every phrase EMPTY with
length 0, every page-map entry 0xFF, and the check word 0x5B25, which brings the sum to 0x5AA5. The 0xFF bytes read as an
unwritten byte and are not listed. -/
def lostDirectoryCells : List Host.Cell :=
  (List.range 256).map (fun i => (2048 + i, 0#8)) ++ [(2560, 0x25#8), (2561, 0x5B#8)]

/-- The part right after power-on with a store memory that nothing has written: the settings check fails, so the
built-in defaults are in force (R201); the directory check fails, so the directory is lost and written anew (R146); and
START_UP and DIRECTORY_LOST are queued (R204). Each other field is as the reset tables of the chapters say. -/
def State.reset : State where
  pending := []
  time := { now := 0, seq := 0, scanDue := 4, convDue := 2, samples := 0 }
  cfg := defaultSettings
  store := lostDirectoryCells
  loop :=
    { st := .unconfigured, c := 0, refValid := false, refPitch := 0, cars := [], watches := Tab.fill 16 .idle,
      recognisers := Tab.fill 16 .waitClear, lockout := Tab.fill 8 false, standstill := false, standTimer := some 600,
      lastPitch := none, interval := none, closing := 0, window := none, refStop := .none, fireDrainPending := false,
      drain := none, drainTimer := none, plan := none, lastError := none, attempts := 0, exhausted := false,
      creepDelay := none, creepPlan := none, fault := none }
  fire :=
    { zones := Tab.fill 8 { st := .disabled, run := none, latest := none }, latch := false, alarmed := 0#8,
      channel := 0 }
  shutters := Tab.fill 24 Shutter.idle
  bridges := { units := Tab.fill 4 Bridge.idle, cursor := 0, sweepDue := false, sweepTimer := some 600000 }
  bells := { lines := Tab.fill 8 Line.rest, lamps := Tab.fill 48 { steady := .off, flash := none } }
  phrases :=
    { phrases := Tab.fill 64 .empty, owners := Tab.fill 256 none, dir := .lost, busy := none, waitA := none,
      waitB := none, stream := none }
  ann :=
    { table := [], lastHandle := 0, nextEntry := 0, routing := Tab.fill 8 none, chanA := Channel.idle,
      chanB := Channel.idle, wanted := false }
  clock := { isSet := false, seconds := 0, weekday := 0, tickDue := 0 }
  prog :=
    { st := .idle, day := none, reference := 0, delay := 0, next := none, hold := none, watch := none,
      results := Tab.fill 16 .notReached, pastMidnight := false }
  link :=
    { rate := 19200, newRate := none, closed := false, kept := [], gap := none, waiting := none, reply := none,
      restarting := false, restarted := true, dropped := false, dropAgain := false, eventsLost := false,
      settingsDefault := true, settingsChanged := false,
      events :=
        [{ kind := .startUp, subject := some 0, detail := 513, time := none },
         { kind := .directoryLost, subject := none, detail := 1, time := none }],
      lost := 0 }
  field :=
    { inputs := Tab.fill 256 { accepted := none, raw := none, awaiting := false }, sending := 0#256,
      latched := 0#256, mismatches := 0, losses := 0, lost := false }

end Sys2Proof.Machine
end

