-- ==== Sys2Proof/Machine/Memory.lean ====
section
/-! DEFINITION. The store memory: 256 pages of 4096 bytes, held as (address, byte) cells with addresses strictly rising
and no cell equal to what an unlisted address reads as (section 7.1). -/

namespace Sys2Proof.Machine

/-- The byte at address `a`. -/
def readByte : List Host.Cell → Nat → Byte
  | [], _ => Config.blankByte
  | (k, v) :: rest, a => if k = a then v else readByte rest a

/-- The memory with byte `v` at address `a`, in canonical form. -/
def writeByte : List Host.Cell → Nat → Byte → List Host.Cell
  | [], a, v => if v = Config.blankByte then [] else [(a, v)]
  | (k, w) :: rest, a, v =>
    if a < k then (if v = Config.blankByte then (k, w) :: rest else (a, v) :: (k, w) :: rest)
    else if a = k then (if v = Config.blankByte then rest else (a, v) :: rest)
    else (k, w) :: writeByte rest a v

/-- The memory with the bytes at consecutive addresses from `a` on. -/
def writeBytes (m : List Host.Cell) (a : Nat) : List Byte → List Host.Cell
  | [] => m
  | v :: vs => writeBytes (writeByte m a v) (a + 1) vs

/-- `n` bytes from address `a` on. -/
def readBytes (m : List Host.Cell) (a n : Nat) : List Byte :=
  (List.range n).map (fun i => readByte m (a + i))

/-- Every cell lies above `lo` and differs from an unlisted byte, and addresses rise strictly. -/
def cellsAbove (lo : Nat) : List Host.Cell → Bool
  | [] => true
  | (k, v) :: rest => decide (lo ≤ k) && decide (v ≠ Config.blankByte) && cellsAbove (k + 1) rest

/-- The canonical form of the store memory. -/
def memoryWf (m : List Host.Cell) : Bool := cellsAbove 0 m

/-- The address of position `pos` of page `page` (section 7.1). -/
def pageAddr (page pos : Nat) : Nat := 4096 * page + pos

/-- The 16-bit words of a list of bytes, low byte first, added modulo 65536 (R139, R201). A last odd byte counts as a
low byte. -/
def wordSum : List Byte → Nat
  | [] => 0
  | [b] => b.toNat
  | b :: c :: rest => (b.toNat + 256 * c.toNat + wordSum rest) % 65536

/-- The check word that brings the sum of a section with the word sum `sum` to `goal`. -/
def checkWord (goal sum : Nat) : Nat := (goal + 65536 - sum % 65536) % 65536

end Sys2Proof.Machine
end

