-- ==== Sys2Proof/Machine/Ops.lean ====
section
/-! DEFINITION. Operations every block uses: the running time and its timers, the event queue, the codes of event
details, and the accepted values of the field inputs. -/

namespace Sys2Proof.Machine

/-! ### Running time and timers -/

/-- The command is counted (log entry 5). Every meaning begins with this. -/
def stamp (s : State) : State := { s with time := { s.time with seq := s.time.seq + 1 } }

/-- The running time is brought up to `t`, and is left where it is when it has passed `t` already. -/
def advanceTo (t : Nat) (s : State) : State := { s with time := { s.time with now := max s.time.now t } }

/-- The running time `ms` milliseconds from now: the expiry of a timer started now. -/
def inMs (s : State) (ms : Nat) : Nat := s.time.now + ms

/-- A timer event: with the timer running it expires at its due time and `f` is done; with the timer stopped there is
nothing to expire (log entry 6). -/
def expire (due : Option Nat) (f : State → State) (s : State) : State :=
  match due with
  | none => s
  | some t => f (advanceTo t s)

/-- Milliseconds left on a timer, none while it does not run. -/
def remaining (s : State) (due : Option Nat) : Option Nat := due.map (fun t => t - s.time.now)

/-! ### The event queue (R195) -/

/-- The event queue holds 48 records. -/
def eventCapacity : Nat := 48

/-- The store clock's seconds, or none while the clock is unset (section 10.4). -/
def clockTime (s : State) : Option Nat := if s.clock.isSet then some s.clock.seconds else none

/-- R195: the record is appended, stamped with the store clock; on a full queue it is dropped, EVENTS_LOST is set and the
lost count rises to at most 255. -/
def queueEvent (kind : EventKind) (subject : Option Nat) (detail : Nat) (s : State) : State :=
  if s.link.events.length < eventCapacity then
    { s with link := { s.link with
        events := s.link.events ++ [{ kind, subject, detail := detail % 65536, time := clockTime s }] } }
  else
    { s with link := { s.link with eventsLost := true, lost := min 255 (s.link.lost + 1) } }

/-! ### Codes of section 11.5 that event details use -/

/-- A signed number in 16 bits, two's complement. -/
def signed16 (x : Int) : Nat := (x % 65536).toNat

/-- A stop error as a detail; none is −32768 (section 11.6). -/
def stopErrorDetail : Option Int → Nat
  | none => signed16 (-32768)
  | some e => signed16 e

def LoopState.code : LoopState → Nat
  | .unconfigured => 0 | .unreferenced => 1 | .referencing => 2 | .starting => 3 | .running => 4 | .draining => 5
  | .stopping => 6 | .braking => 7 | .parked => 8 | .stoppedFoul => 9 | .creeping => 10 | .faultStop => 11

def LoopCause.code : LoopCause → Nat
  | .overspeed => 1 | .stall => 2 | .startTimeout => 3 | .pitchSlip => 4 | .datumSlip => 5 | .datumMissing => 6
  | .sillMismatch => 7 | .shaftCrossing => 8 | .landingStop => 9 | .turnFlap => 10 | .shutterIntrusion => 11
  | .fieldLost => 12

def ZoneState.code : ZoneState → Nat
  | .disabled => 0 | .normal => 1 | .alarm => 2 | .openFault => 3 | .shortFault => 4

def CheckResult.code : CheckResult → Nat
  | .normal => 0 | .openWinding => 1 | .shortSupply => 2 | .shortGround => 3 | .unclassified => 4
  | .openCircuit => 5 | .travelTimeout => 6 | .obstructionRetries => 7 | .limitLost => 8 | .limitsBoth => 9

def DemandClass.code : DemandClass → Nat
  | .fire => 0 | .closing => 1 | .host => 2

def Purpose.code : Purpose → Nat
  | .preTravel => 0 | .test => 1 | .sweep => 2

def originCode : Origin → Nat
  | .station n => n
  | .link => 255

def StepAction.code : StepAction → Nat
  | .announce _ _ => 0 | .strokes _ _ => 1 | .loopDrain => 2 | .loopStop _ => 3 | .shuttersClose _ _ => 4
  | .landingsLock _ => 5

def SkipReason.code : SkipReason → Nat
  | .stale => 0 | .announceRefused _ => 1 | .loopNotRunning _ => 2 | .loopNotStopped _ => 3

def ReqOutcome.code : ReqOutcome → Nat
  | .done => 0x00 | .accepted => 0x01 | .clamped => 0x02 | .malformed => 0x10 | .unknownKind => 0x11
  | .badValue => 0x12 | .scopeNotSingle => 0x13 | .wrongState => 0x14 | .fireMode => 0x15 | .queueFull => 0x16
  | .noSpace => 0x17 | .inUse => 0x18 | .notReady => 0x19 | .outOfOrder => 0x1A

def EventKind.code : EventKind → Nat
  | .startUp => 0x01 | .fieldLost => 0x02 | .fieldRestored => 0x03
  | .referenced => 0x10 | .loopParked => 0x11 | .loopFoul => 0x12 | .loopFault => 0x13 | .drainDone => 0x14
  | .drainTimeout => 0x15 | .stopClamped => 0x16 | .creepExhausted => 0x17 | .overload => 0x18
  | .crossingUnattributed => 0x19
  | .zoneAlarm => 0x20 | .zoneFault => 0x21 | .zoneNormal => 0x22 | .fireLatched => 0x23 | .fireReset => 0x24
  | .shutterClosed => 0x28 | .shutterOpened => 0x29 | .shutterHeld => 0x2A | .shutterObstructed => 0x2B
  | .shutterFault => 0x2C | .fireCloseImpossible => 0x2D | .demandCancelled => 0x2E
  | .checkResult => 0x30 | .bridgeOut => 0x31
  | .callRefused => 0x38 | .callUnanswered => 0x39 | .callsCleared => 0x3A
  | .announceDone => 0x40 | .phraseSkipped => 0x41 | .phraseReady => 0x42 | .directoryLost => 0x43
  | .closingStarted => 0x50 | .stepDone => 0x51 | .stepSkipped => 0x52 | .stepTimeout => 0x53
  | .closingComplete => 0x54 | .closingAborted => 0x55 | .closingMissed => 0x56

/-! ### Field inputs (section 11.3) -/

def sillPoint (o : Nat) : Nat := o
def outerPoint (o : Nat) : Nat := 16 + o
def innerPoint (o : Nat) : Nat := 32 + o
def buttonPoint (l : Nat) : Nat := 48 + l
def topFlapPoint : Nat := 56
def bottomFlapPoint : Nat := 57
def topLimitPoint (i : Nat) : Nat := if i < 16 then 64 + i else 112 + (i - 16)
def bottomLimitPoint (i : Nat) : Nat := if i < 16 then 80 + i else 120 + (i - 16)
def edgePoint (i : Nat) : Nat := if i < 16 then 96 + i else 128 + (i - 16)
def callPoint (n : Nat) : Nat := 144 + n
def attendPoint (n : Nat) : Nat := 192 + n

/-- The accepted value of an input, none until its first acceptance (R205). -/
def acceptedAt (s : State) (p : Nat) : Option Bool := (s.field.inputs.get p).accepted

/-- The input's accepted value is active. An input with no accepted value yet is not active (log entry 8). -/
def active (s : State) (p : Nat) : Bool := acceptedAt s p == some true

/-! ### Small records -/

def shutterDef (s : State) (i : Nat) : Option ShutterDef := s.cfg.shutters.get i

/-- The shutter is in the table of definitions. -/
def isDefined (s : State) (i : Nat) : Bool := (shutterDef s i).isSome

/-- The ids of the defined shutters, ascending. -/
def definedShutters (s : State) : List Nat := (List.range 24).filter (isDefined s)

/-- The shutter's live record. The record of an id outside the table is the idle one. -/
def shutterAt (s : State) (i : Nat) : Shutter := s.shutters.items.getD i Shutter.idle

/-- The state with shutter `i`'s live record changed by `f`. -/
def modShutter (i : Nat) (f : Shutter → Shutter) (s : State) : State :=
  { s with shutters := s.shutters.put i (f (shutterAt s i)) }

/-- The bridge record. The record of a number outside 0 to 3 is the idle one. -/
def bridgeAt (s : State) (b : Nat) : Bridge := s.bridges.units.items.getD b Bridge.idle

/-- The state with bridge `b`'s record changed by `f`. -/
def modBridge (b : Nat) (f : Bridge → Bridge) (s : State) : State :=
  { s with bridges := { s.bridges with units := s.bridges.units.put b (f (bridgeAt s b)) } }

/-- The bell line's record. -/
def lineAt (s : State) (l : Nat) : Line := s.bells.lines.items.getD l Line.rest

/-- The state with line `l`'s record changed by `f`. -/
def modLine (l : Nat) (f : Line → Line) (s : State) : State :=
  { s with bells := { s.bells with lines := s.bells.lines.put l (f (lineAt s l)) } }

def channelAt (s : State) : Chan → Channel
  | .a => s.ann.chanA
  | .b => s.ann.chanB

/-- The state with the channel's record changed by `f`. -/
def modChannel (ch : Chan) (f : Channel → Channel) (s : State) : State :=
  match ch with
  | .a => { s with ann := { s.ann with chanA := f s.ann.chanA } }
  | .b => { s with ann := { s.ann with chanB := f s.ann.chanB } }

/-- Do `f` for each member of a list, in order. -/
def forEach {α : Type} (xs : List α) (f : α → State → State) (s : State) : State :=
  xs.foldl (fun t x => f x t) s

/-- Put `x` into a list kept in order: before the first entry it does not come after. -/
def insertBy {α : Type} (before : α → α → Bool) (x : α) : List α → List α
  | [] => [x]
  | y :: ys => if before x y then x :: y :: ys else y :: insertBy before x ys

/-- The list in the order `before` gives; entries it does not tell apart keep their order. -/
def orderBy {α : Type} (before : α → α → Bool) : List α → List α
  | [] => []
  | x :: xs => insertBy before x (orderBy before xs)

end Sys2Proof.Machine
end

