-- ==== Sys2Proof/Machine/Geometry.lean ====
section
/-! DEFINITION. The geometry of the loop: forbidden intervals, clear list, occupied openings (R4 to R6, R13). -/

namespace Sys2Proof.Machine

/-- The car count N; 0 while unset. -/
def Geometry.cars (g : Geometry) : Nat := (g.dims.map Dims.n).getD 0

/-- The landing count L; 0 while unset. -/
def Geometry.landings (g : Geometry) : Nat := (g.dims.map Dims.l).getD 0

/-- The loop length Ltot in chain counts. -/
def Geometry.length (g : Geometry) : Nat := 256 * g.cars

/-- The minimum clear width; 0 while unset. -/
def Geometry.clearWidth (g : Geometry) : Nat := (g.dims.map Dims.wMin).getD 0

/-- R4: phase `p` lies in the forbidden interval of the opening. -/
def Opening.forbids (o : Opening) (p : Nat) : Bool :=
  decide (circSub (p + o.below) o.sill 256 ≤ o.below + o.above)

/-- R4: phase `p` lies in the forbidden set F. -/
def Geometry.forbidden (g : Geometry) (p : Nat) : Bool :=
  g.openings.items.any (fun o => o.any (fun x => x.forbids p))

/-- The number of clear phases from `p` on before the next forbidden one, at most `fuel`. -/
def Geometry.clearFrom (g : Geometry) : Nat → Nat → Nat
  | 0, _ => 0
  | fuel + 1, p => if g.forbidden (p % 256) then 0 else g.clearFrom fuel (p + 1) + 1

/-- R5: the usable clear runs' target phases. A run starts at a clear phase whose predecessor is forbidden. -/
def Geometry.targets (g : Geometry) : List Nat :=
  (List.range 256).filterMap (fun a =>
    if !g.forbidden a && g.forbidden ((a + 255) % 256) then
      let n := g.clearFrom 256 a
      if g.clearWidth ≤ n then some ((a + (n - 1) / 2) % 256) else none
    else none)

/-- R5: the clear list, the target phases in ascending order. -/
def Geometry.clearList (g : Geometry) : List Nat := orderBy (fun a b => decide (a ≤ b)) g.targets

/-- Every opening of landings 0 to L−1 is defined. -/
def Geometry.allDefined (g : Geometry) : Bool :=
  (List.range (2 * g.landings)).all (fun o => (g.openings.get o).isSome)

/-- R3: the geometry is valid. -/
def Geometry.valid (g : Geometry) : Bool :=
  g.dims.isSome && g.allDefined && !g.clearList.isEmpty

/-- R6: every opening defined and no clear run long enough to stop at. -/
def Geometry.noStop (g : Geometry) : Bool :=
  g.dims.isSome && g.allDefined && g.clearList.isEmpty

/-- R13: the car that occupies the opening at chain position `c`, none when the opening is computed clear. -/
def Geometry.occupant (g : Geometry) (o : Opening) (c : Nat) : Option Nat :=
  let x := circSub (c + o.below) o.sill g.length
  if x % 256 ≤ o.below + o.above then some ((g.cars - x / 256) % g.cars) else none

/-- The openings of landings 0 to L−1 that are defined, ascending, with their records. -/
def Geometry.watched (g : Geometry) : List (Nat × Opening) :=
  (List.range (min 16 (2 * g.landings))).filterMap (fun o => (g.openings.get o).map (fun x => (o, x)))

/-- The entry phase of an opening (R14). -/
def Opening.entryPhase (o : Opening) : Nat := circSub o.sill o.below 256

/-- The circular distance of two phases. -/
def phaseDistance (p q : Nat) : Nat := min (circSub p q 256) (circSub q p 256)

/-- The chain phase (section 7 of the introduction). -/
def phase (s : State) : Nat := s.loop.c % 256

/-- The opening number is defined and computed occupied, with the car; none with the reference NONE (R13). -/
def occupantOf (s : State) (o : Nat) : Option Nat :=
  if s.loop.refValid then
    match s.cfg.geom.openings.get o with
    | none => none
    | some x => s.cfg.geom.occupant x s.loop.c
  else none

/-- R16: the lowest-numbered opening that car `k` occupies. -/
def occupyingOpening (s : State) (k : Nat) : Option Nat :=
  (List.range 16).find? (fun o => occupantOf s o == some k)

/-- R77, condition 3: the reference NONE, the opening undefined, or computed clear. -/
def openingClear (s : State) (o : Nat) : Bool := (occupantOf s o).isNone

end Sys2Proof.Machine
end

