-- ==== Sys2Proof/Machine/Operands.lean ====
section
/-! DEFINITION. The encodings of section 11.4 that payloads use, least significant byte first, and the code tables of
section 11.5 that only payloads need. Where the manual names a payload's content and not its bytes, the fields stand in
the order named, each in the fewest whole bytes that hold its range (log entry 9). -/

namespace Sys2Proof.Machine

/-- A number in `k` bytes, least significant byte first. -/
def bytesLE : Nat → Nat → List Byte
  | 0, _ => []
  | k + 1, x => BitVec.ofNat 8 x :: bytesLE k (x / 256)

/-- The number that bytes spell, least significant byte first. -/
def fromLE : List Byte → Nat
  | [] => 0
  | b :: bs => b.toNat + 256 * fromLE bs

/-- A signed number in `k` bytes, two's complement. -/
def signedLE (k : Nat) (x : Int) : List Byte := bytesLE k (x % (256 ^ k : Nat)).toNat

/-- A flag in one byte. -/
def flagByte (b : Bool) : List Byte := [if b then 1#8 else 0#8]

/-- A number in `k` bytes, or none as bytes of 0xFF. -/
def optLE (k : Nat) : Option Nat → List Byte
  | none => List.replicate k 0xFF#8
  | some x => bytesLE k x

/-- A list: a count byte, then the items. -/
def listBytes (xs : List Nat) : List Byte := bytesLE 1 xs.length ++ xs.flatMap (bytesLE 1)

/-- The bit mask of a set given as a list of members. -/
def maskOf (xs : List Nat) : Nat := xs.foldl (fun m i => m ||| 2 ^ i) 0

/-- A set of shutters or openings, in `k` bytes. -/
def setBytes (k : Nat) (xs : List Nat) : List Byte := bytesLE k (maskOf xs)

/-- An accepted value in one byte; 0xFF while there is none. -/
def acceptedByte : Option Bool → List Byte
  | none => [0xFF#8]
  | some b => flagByte b

def Band.code : Band → Nat
  | .short => 0 | .normal => 1 | .alarm => 2 | .open => 3

def ShutterKind.code : ShutterKind → Nat
  | .opening => 0 | .divider => 1 | .stair => 2

def Motion.code : Motion → Nat
  | .open => 0 | .closed => 1 | .lowering => 2 | .raising => 3 | .stoppedMid => 4

def DemandDir.code : DemandDir → Nat
  | .close => 1 | .open => 2 | .test => 3

def DemandStatus.code : DemandStatus → Nat
  | .heldByLoop => 0 | .waitingBridge => 1 | .checking => 2 | .moving => 3 | .recovering => 4 | .paused => 5
  | .dwelling => 6 | .retryWait => 7

def BridgeState.code : BridgeState → Nat
  | .free => 0 | .checking _ _ _ => 1 | .driving _ _ _ _ => 2 | .dwell _ _ _ => 3 | .outOfService => 4

def LineState.code : LineState → Nat
  | .idle => 0 | .call => 1 | .strokes => 2 | .gap => 3 | .fireRinging => 4 | .silenced => 5

def ChanState.code : ChanState → Nat
  | .idle => 0 | .phrase => 1 | .passGap => 2

def ProgState.code : ProgState → Nat
  | .idle => 0 | .armed => 1 | .running => 2 | .held => 3 | .complete => 4 | .aborted => 5

def DirState.code : DirState → Nat
  | .good => 0 | .recovered => 1 | .lost => 2

def Watch.code : Watch → Nat
  | .idle => 0 | .armed => 1 | .met => 2

def Recogniser.code : Recogniser → Nat
  | .waitClear => 0 | .rest => 1 | .recording _ _ => 2

def LampState.code : LampState → Nat
  | .off => 0 | .pending => 1 | .unanswered => 2

def CallState.code : CallState → Nat
  | .waiting => 0 | .sounding _ => 1 | .awaitingRepeat => 2

def Occ.code : Occ → Nat
  | .unknown => 3
  | .count n => n

def StrokesResult.code : StrokesResult → Nat
  | .taken => 0 | .pending => 1 | .discarded => 2

/-- A channel, or NONE as 0xFF. -/
def chanByte : Option Chan → List Byte
  | none => [0xFF#8]
  | some .a => [0#8]
  | some .b => [1#8]

/-- The fifteen timing values, each in the fewest whole bytes that hold its range. -/
def timingBytes (v : LoopTiming) : List Byte :=
  bytesLE 1 v.pTol ++ bytesLE 2 v.standstill ++ bytesLE 2 v.tMin ++ bytesLE 2 v.tMax ++ bytesLE 2 v.tStart
    ++ bytesLE 2 v.tNom ++ bytesLE 2 v.tcMin ++ bytesLE 3 v.tcMax ++ bytesLE 1 v.decel ++ bytesLE 1 v.rDrain
    ++ bytesLE 2 v.drainNormal ++ bytesLE 2 v.drainFire ++ bytesLE 1 v.creepLimit ++ bytesLE 1 v.creepDelay
    ++ bytesLE 1 v.creepStop

/-- A fire zone's definition. -/
def zoneBytes (z : ZoneDef) : List Byte :=
  flagByte z.enable ++ bytesLE 1 z.floor ++ bytesLE 2 z.t1 ++ bytesLE 2 z.t2 ++ bytesLE 2 z.t3 ++ bytesLE 1 z.h
    ++ bytesLE 1 z.k

/-- A shutter's definition from the floor on. -/
def shutterBytes (d : ShutterDef) : List Byte :=
  bytesLE 1 d.floor ++ bytesLE 1 d.kind.code ++ optLE 1 d.opening ++ [d.zones, d.groups] ++ bytesLE 1 d.priority
    ++ bytesLE 1 d.travel ++ bytesLE 1 d.retryDelay ++ bytesLE 1 d.retryLimit ++ bytesLE 1 d.firePause
    ++ bytesLE 1 d.pauseLimit

/-- The five bridge values. -/
def bridgeBytes (v : BridgeParams) : List Byte :=
  bytesLE 1 v.sweep ++ bytesLE 2 v.stall ++ bytesLE 1 v.openThr ++ bytesLE 2 v.dwell ++ bytesLE 2 v.grace

/-- A code as DEFINE CODE carries it after the code number. -/
def codeBytes (d : CodeDef) : List Byte :=
  listBytes d.groups ++ bytesLE 1 d.urgency ++ bytesLE 1 d.maxRepeats ++ bytesLE 2 d.interval

/-- The five bell timing values. -/
def bellBytes (v : BellTiming) : List Byte :=
  bytesLE 1 v.onTime ++ bytesLE 2 v.strokeGap ++ bytesLE 2 v.groupGap ++ bytesLE 2 v.codeGap ++ bytesLE 2 v.firePeriod

/-- A closing step from the offset on (section 9.2). -/
def stepBytes (x : ClosingStep) : List Byte :=
  signedLE 1 x.offset ++ bytesLE 1 x.action.code ++
  match x.action with
  | .announce ps zs => listBytes ps ++ [zs]
  | .strokes n ls => bytesLE 1 n ++ [ls]
  | .loopDrain => []
  | .loopStop hold => bytesLE 1 hold
  | .shuttersClose g hold => bytesLE 1 g ++ bytesLE 1 hold
  | .landingsLock fs => [fs]

end Sys2Proof.Machine
end

