-- ==== Sys2Proof/Machine/Limits.lean ====
section
/-! DEFINITION. The limits of every settable value: structural ranges, clamping of tuning values, and the orderings the
define requests test (R194). The settings load tests a stored section with the same limits (R201). -/

namespace Sys2Proof.Machine

/-- `x` lies in `lo` to `hi`, both ends included. -/
def within (lo hi x : Nat) : Bool := decide (lo ≤ x) && decide (x ≤ hi)

/-! ### Loop (sections 1.1 and 2.2) -/

/-- The structural ranges of R1. -/
def dimsOk (d : Dims) : Bool := within 6 24 d.n && within 2 8 d.l && within 4 64 d.wMin

/-- The structural ranges of R2, for opening number `o` of a geometry. -/
def openingOk (g : Geometry) (o : Nat) (x : Opening) : Bool :=
  decide (o < 2 * g.landings) && decide (x.sill < g.length) && within 0 127 x.below && within 0 127 x.above

/-- R27: the fifteen values brought to their nearer limits. -/
def clampTiming (v : LoopTiming) : LoopTiming :=
  { pTol := clamp 1 16 v.pTol
    standstill := clamp 200 2000 v.standstill
    tMin := clamp 1000 30000 v.tMin
    tMax := clamp 2000 60000 v.tMax
    tStart := clamp 2000 30000 v.tStart
    tNom := clamp 1000 60000 v.tNom
    tcMin := clamp 2000 60000 v.tcMin
    tcMax := clamp 4000 120000 v.tcMax
    decel := clamp 1 64 v.decel
    rDrain := clamp 1 3 v.rDrain
    drainNormal := clamp 60 1800 v.drainNormal
    drainFire := clamp 20 300 v.drainFire
    creepLimit := clamp 0 5 v.creepLimit
    creepDelay := clamp 1 10 v.creepDelay
    creepStop := clamp 1 32 v.creepStop }

/-- The two orderings of section 2.2, Note 1. -/
def timingOrdered (v : LoopTiming) : Bool :=
  decide (v.tMin + 500 ≤ v.tMax) && decide (v.tcMin + 500 ≤ v.tcMax)

/-! ### Fire zones (section 3.2) -/

/-- R55: the structural ranges of a zone definition, and its thresholds strictly ascending. -/
def zoneReqOk (v : ZoneReq) : Bool :=
  within 0 1 v.enable && within 0 7 v.floor && within 0 1023 v.t1 && within 0 1023 v.t2 && within 0 1023 v.t3
    && decide (v.t1 < v.t2) && decide (v.t2 < v.t3)

/-- R55: the definition with h and k brought to their limits. -/
def clampZone (v : ZoneReq) : ZoneDef :=
  { enable := v.enable == 1, floor := v.floor, t1 := v.t1, t2 := v.t2, t3 := v.t3, h := clamp 0 50 v.h,
    k := clamp 1 10 v.k }

/-- Section 3.2, Note 1: each gap exceeds 2h. -/
def zoneGapsOk (z : ZoneDef) : Bool :=
  decide (2 * z.h < z.t2 - z.t1) && decide (2 * z.h < z.t3 - z.t2)

/-! ### Shutters and bridges (sections 4.1 and 5.9) -/

/-- The shutter kind of a code of section 11.5. -/
def kindOfCode : Nat → Option ShutterKind
  | 0 => some .opening
  | 1 => some .divider
  | 2 => some .stair
  | _ => none

/-- R69: the structural values of a shutter definition; the opening id is present for kind OPENING and for no other. -/
def shutterReqOk (v : ShutterReq) : Bool :=
  within 0 7 v.floor && within 0 2 v.kind && within 0 3 v.priority &&
    (match v.opening with
     | some o => v.kind == 0 && within 0 15 o
     | none => v.kind != 0)

/-- R69: the definition with its tuning values brought to their nearer limits. -/
def clampShutter (v : ShutterReq) : ShutterDef :=
  { floor := v.floor
    kind := (kindOfCode v.kind).getD .divider
    opening := v.opening
    zones := v.zones
    groups := v.groups
    priority := v.priority
    travel := clamp 5 120 v.travel
    retryDelay := clamp 5 60 v.retryDelay
    retryLimit := clamp 0 5 v.retryLimit
    firePause := clamp 2 20 v.firePause
    pauseLimit := clamp 1 10 v.pauseLimit }

/-- The five tuning values of a definition are those of the request. -/
def shutterUnclamped (v : ShutterReq) (d : ShutterDef) : Bool :=
  d.travel == v.travel && d.retryDelay == v.retryDelay && d.retryLimit == v.retryLimit && d.firePause == v.firePause
    && d.pauseLimit == v.pauseLimit

/-- R115: the five bridge values brought to their nearer limits. -/
def clampBridges (v : BridgeParams) : BridgeParams :=
  { sweep := clamp 0 240 v.sweep
    stall := clamp 100 1023 v.stall
    openThr := clamp 0 200 v.openThr
    dwell := clamp 100 1000 v.dwell
    grace := clamp 100 1000 v.grace }

/-- Section 5.9, Note 1. -/
def bridgesOrdered (v : BridgeParams) : Bool := decide (v.openThr < v.stall)

/-! ### Bells (sections 6.1, 6.2 and 6.8) -/

/-- R117: the code with its tuning values brought to their limits; absent repeats and interval take their defaults. -/
def clampCode (groups : List Nat) (urgency : Nat) (repeats : Option (Nat × Nat)) : CodeDef :=
  { groups := groups.map (clamp 1 6)
    urgency
    maxRepeats := match repeats with
      | some (m, _) => clamp 0 9 m
      | none => 3
    interval := match repeats with
      | some (_, t) => clamp 15 600 t
      | none => 60 }

/-- R117: the structural values of a code. -/
def codeReqOk (code : Nat) (groups : List Nat) (urgency : Nat) : Bool :=
  within 0 15 code && within 1 4 groups.length && within 0 3 urgency

/-- R117: nothing was clamped. -/
def codeUnclamped (groups : List Nat) (repeats : Option (Nat × Nat)) (d : CodeDef) : Bool :=
  d.groups == groups && repeats.all (fun p => d.maxRepeats == p.1 && d.interval == p.2)

/-- R136: the five bell timing values brought to their nearer limits. -/
def clampBells (v : BellTiming) : BellTiming :=
  { onTime := clamp 40 250 v.onTime
    strokeGap := clamp 150 800 v.strokeGap
    groupGap := clamp 500 2000 v.groupGap
    codeGap := clamp 1000 6000 v.codeGap
    firePeriod := clamp 300 2000 v.firePeriod }

/-- Section 6.8, Note 1. -/
def bellsOrdered (v : BellTiming) : Bool := decide (v.strokeGap < v.groupGap)

/-! ### Announcements and closing (sections 8.2 and 9.2) -/

/-- One to eight phrase ids 0 to 63. -/
def phraseListOk (ps : List Nat) : Bool := within 1 8 ps.length && ps.all (within 0 63)

/-- R170: a closing time is a minute from 600 to 1320, or NONE. -/
def closingTimeOk (t : Option Nat) : Bool := t.all (within 600 1320)

/-- R171: the step a request gives, with its stroke count and hold limit clamped, none where a structural value is out of
range, a set is empty, or a parameter is missing or does not belong to the action. -/
def stepOf (v : StepReq) : Option ClosingStep :=
  if decide (-90 ≤ v.offset) && decide (v.offset ≤ 30) then
    match v with
    | ⟨o, 0, some ps, some zs, none, none, none, none, none⟩ =>
      if phraseListOk ps && zs != 0#8 then some ⟨o, .announce ps zs⟩ else none
    | ⟨o, 1, none, none, some n, some ls, none, none, none⟩ =>
      if ls != 0#8 then some ⟨o, .strokes (clamp 1 12 n) ls⟩ else none
    | ⟨o, 2, none, none, none, none, none, none, none⟩ => some ⟨o, .loopDrain⟩
    | ⟨o, 3, none, none, none, none, none, none, hold⟩ => some ⟨o, .loopStop (clamp 1 60 (hold.getD 20))⟩
    | ⟨o, 4, none, none, none, none, some g, none, hold⟩ =>
      if within 0 7 g then some ⟨o, .shuttersClose g (clamp 1 60 (hold.getD 20))⟩ else none
    | ⟨o, 5, none, none, none, none, none, some fs, none⟩ =>
      if fs != 0#8 then some ⟨o, .landingsLock fs⟩ else none
    | _ => none
  else none

/-- R171: the stroke count and the hold limit that the step has are those of the request. -/
def stepUnclamped (v : StepReq) : Bool :=
  v.strokes.all (within 1 12) && v.hold.all (within 1 60)

/-- Section 9.2, Note 1: the offsets of the defined slots do not decrease in slot order. -/
def offsetsOrdered : List (Option ClosingStep) → Bool
  | [] => true
  | none :: rest => offsetsOrdered rest
  | some x :: rest => rest.all (fun y => y.all (fun z => decide (x.offset ≤ z.offset))) && offsetsOrdered rest

end Sys2Proof.Machine
end

