-- ==== Sys2Proof/Machine/SettingsImage.lean ====
section
/-! DEFINITION. The settings section of page 0 (section 11.7): the image SAVE SETTINGS writes, and the settings load that
reads it (R201, R202). -/

namespace Sys2Proof.Machine

/-! ### The image -/

/-- The bytes followed by bytes of 0, `n` in all. -/
def padTo (n : Nat) (bs : List Byte) : List Byte := bs ++ List.replicate (n - bs.length) 0#8

/-- The 96 bytes of the geometry. While N, L and w_min are unset they are written as none (log entry 10). -/
def geometryImage (g : Geometry) : List Byte :=
  padTo 96
    ((match g.dims with
      | none => [0xFF#8, 0xFF#8, 0xFF#8]
      | some d => bytesLE 1 d.n ++ bytesLE 1 d.l ++ bytesLE 1 d.wMin) ++
     g.openings.items.flatMap (fun o => match o with
      | none => List.replicate 5 0#8
      | some x => 1#8 :: (bytesLE 2 x.sill ++ bytesLE 1 x.below ++ bytesLE 1 x.above)))

/-- The 64 bytes of the loop timing, 4 bytes each in the order of section 2.2. -/
def timingImage (v : LoopTiming) : List Byte :=
  padTo 64 ([v.pTol, v.standstill, v.tMin, v.tMax, v.tStart, v.tNom, v.tcMin, v.tcMax, v.decel, v.rDrain,
    v.drainNormal, v.drainFire, v.creepLimit, v.creepDelay, v.creepStop].flatMap (bytesLE 4))

/-- The 16 bytes of a shutter entry. -/
def shutterImage : Option ShutterDef → List Byte
  | none => padTo 16 []
  | some d => padTo 16 (1#8 :: shutterBytes d)

/-- The 12 bytes of a code entry. -/
def codeImage : Option CodeDef → List Byte
  | none => padTo 12 []
  | some d =>
    padTo 12 (1#8 :: (bytesLE 1 d.groups.length ++ padTo 4 (d.groups.flatMap (bytesLE 1)) ++ bytesLE 1 d.urgency
      ++ bytesLE 1 d.maxRepeats ++ bytesLE 2 d.interval))

/-- The 2 bytes of a station. -/
def stationImage : Option StationDef → List Byte
  | none => [0xFF#8, 0#8]
  | some d => bytesLE 1 d.line ++ bytesLE 1 d.code

/-- The 16 bytes of the evacuation. -/
def evacImage : Option (List Nat) → List Byte
  | none => padTo 16 []
  | some ps => padTo 16 (listBytes ps)

/-- The 16 bytes of a step slot. -/
def stepImage : Option ClosingStep → List Byte
  | none => padTo 16 []
  | some x => padTo 16 (1#8 :: stepBytes x)

/-- The 1278 bytes of the section before its check word. -/
def settingsBody (c : Settings) : List Byte :=
  geometryImage c.geom ++ timingImage c.timing ++ c.zones.items.flatMap zoneBytes
    ++ c.shutters.items.flatMap shutterImage ++ padTo 16 (bridgeBytes c.bridges) ++ c.codes.items.flatMap codeImage
    ++ c.stations.items.flatMap stationImage ++ padTo 16 (bellBytes c.bells) ++ evacImage c.evac
    ++ padTo 16 (c.times.items.flatMap (optLE 2)) ++ c.steps.items.flatMap stepImage ++ List.replicate 46 0#8

/-- The sum that a good settings section has (R201). -/
def settingsSum : Nat := 0xA55A

/-- The 1280 bytes of the section with a fresh check word (R202). -/
def settingsImage (c : Settings) : List Byte :=
  let body := settingsBody c
  body ++ bytesLE 2 (checkWord settingsSum (wordSum body))

/-! ### The load -/

/-- The `k`-byte number at offset `off`. -/
def numAt (bs : List Byte) (off k : Nat) : Nat := fromLE ((bs.drop off).take k)

/-- The byte at offset `off` as a set. -/
def setAt (bs : List Byte) (off : Nat) : Set8 := bs.getD off 0#8

/-- A byte as a signed number. -/
def signedOf (x : Nat) : Int := if x < 128 then x else (x : Int) - 256

/-- `f` of each of 0 to n−1, none when one of them is none. -/
def collect {α : Type} : List (Option α) → Option (List α)
  | [] => some []
  | none :: _ => none
  | some x :: rest => (collect rest).map (x :: ·)

/-- A table of `n` entries read with `f`, none when an entry fails. -/
def readTab {α : Type} (n : Nat) (f : Nat → Option α) : Option (Tab n α) :=
  match collect ((List.range n).map f) with
  | none => none
  | some xs => if h : xs.length = n then some ⟨xs, h⟩ else none

/-- The opening entry `o` of the section. -/
def readOpening (bs : List Byte) (g : Geometry) (o : Nat) : Option (Option Opening) :=
  let off := 3 + 5 * o
  match numAt bs off 1 with
  | 0 => some none
  | 1 =>
    let x : Opening := { sill := numAt bs (off + 1) 2, below := numAt bs (off + 3) 1, above := numAt bs (off + 4) 1 }
    if openingOk g o x then some (some x) else none
  | _ => none

/-- The geometry of the section; with N, L and w_min unset no opening may be defined. -/
def readGeometry (bs : List Byte) : Option Geometry :=
  let d : Dims := { n := numAt bs 0 1, l := numAt bs 1 1, wMin := numAt bs 2 1 }
  let dims : Option Dims := if d.n = 255 ∧ d.l = 255 ∧ d.wMin = 255 then none else some d
  let g : Geometry := { dims, openings := Tab.fill 16 none }
  if dims.all dimsOk then (readTab 16 (readOpening bs g)).map (fun os => { dims, openings := os }) else none

/-- The loop timing of the section. -/
def readTiming (bs : List Byte) : Option LoopTiming :=
  let n (k : Nat) : Nat := numAt bs (96 + 4 * k) 4
  let v : LoopTiming :=
    { pTol := n 0, standstill := n 1, tMin := n 2, tMax := n 3, tStart := n 4, tNom := n 5, tcMin := n 6, tcMax := n 7,
      decel := n 8, rDrain := n 9, drainNormal := n 10, drainFire := n 11, creepLimit := n 12, creepDelay := n 13,
      creepStop := n 14 }
  if clampTiming v = v ∧ timingOrdered v = true then some v else none

/-- The zone entry `z` of the section. -/
def readZone (bs : List Byte) (z : Nat) : Option ZoneDef :=
  let off := 160 + 10 * z
  let v : ZoneReq :=
    { enable := numAt bs off 1, floor := numAt bs (off + 1) 1, t1 := numAt bs (off + 2) 2, t2 := numAt bs (off + 4) 2,
      t3 := numAt bs (off + 6) 2, h := numAt bs (off + 8) 1, k := numAt bs (off + 9) 1 }
  let d := clampZone v
  if zoneReqOk v && d.h == v.h && d.k == v.k && zoneGapsOk d then some d else none

/-- An optional one-byte value, 0xFF for none. -/
def optAt (bs : List Byte) (off : Nat) : Option Nat := if numAt bs off 1 = 255 then none else some (numAt bs off 1)

/-- The shutter entry `i` of the section. -/
def readShutter (bs : List Byte) (i : Nat) : Option (Option ShutterDef) :=
  let off := 240 + 16 * i
  match numAt bs off 1 with
  | 0 => some none
  | 1 =>
    let v : ShutterReq :=
      { floor := numAt bs (off + 1) 1, kind := numAt bs (off + 2) 1, opening := optAt bs (off + 3),
        zones := setAt bs (off + 4), groups := setAt bs (off + 5), priority := numAt bs (off + 6) 1,
        travel := numAt bs (off + 7) 1, retryDelay := numAt bs (off + 8) 1, retryLimit := numAt bs (off + 9) 1,
        firePause := numAt bs (off + 10) 1, pauseLimit := numAt bs (off + 11) 1 }
    if shutterReqOk v && shutterUnclamped v (clampShutter v) then some (some (clampShutter v)) else none
  | _ => none

/-- The bridge values of the section. -/
def readBridges (bs : List Byte) : Option BridgeParams :=
  let v : BridgeParams :=
    { sweep := numAt bs 624 1, stall := numAt bs 625 2, openThr := numAt bs 627 1, dwell := numAt bs 628 2,
      grace := numAt bs 630 2 }
  if clampBridges v = v ∧ bridgesOrdered v = true then some v else none

/-- The code entry `c` of the section. -/
def readCode (bs : List Byte) (c : Nat) : Option (Option CodeDef) :=
  let off := 640 + 12 * c
  match numAt bs off 1 with
  | 0 => some none
  | 1 =>
    let groups := (List.range (numAt bs (off + 1) 1)).map (fun k => numAt bs (off + 2 + k) 1)
    let urgency := numAt bs (off + 6) 1
    let repeats := some (numAt bs (off + 7) 1, numAt bs (off + 8) 2)
    let d := clampCode groups urgency repeats
    if codeReqOk c groups urgency && codeUnclamped groups repeats d then some (some d) else none
  | _ => none

/-- The station entry `n` of the section; a station names a defined code. -/
def readStation (bs : List Byte) (codes : Tab 16 (Option CodeDef)) (n : Nat) : Option (Option StationDef) :=
  let line := numAt bs (832 + 2 * n) 1
  let code := numAt bs (833 + 2 * n) 1
  if line = 255 then some none
  else if within 0 7 line && within 0 15 code && (codes.get code).isSome then some (some { line, code })
  else none

/-- The bell timing of the section. -/
def readBells (bs : List Byte) : Option BellTiming :=
  let v : BellTiming :=
    { onTime := numAt bs 928 1, strokeGap := numAt bs 929 2, groupGap := numAt bs 931 2, codeGap := numAt bs 933 2,
      firePeriod := numAt bs 935 2 }
  if clampBells v = v ∧ bellsOrdered v = true then some v else none

/-- The evacuation of the section. -/
def readEvac (bs : List Byte) : Option (Option (List Nat)) :=
  match numAt bs 944 1 with
  | 0 => some none
  | n + 1 =>
    let ps := (List.range (n + 1)).map (fun k => numAt bs (945 + k) 1)
    if phraseListOk ps then some (some ps) else none

/-- The closing time of weekday `d` of the section. -/
def readTime (bs : List Byte) (d : Nat) : Option (Option Nat) :=
  let t := numAt bs (960 + 2 * d) 2
  if t = 65535 then some none else if within 600 1320 t then some (some t) else none

/-- The parameters of the step at offset `off`, as DEFINE STEP carries them. -/
def readStepReq (bs : List Byte) (off : Nat) : StepReq :=
  let n (k : Nat) : Nat := numAt bs (off + k) 1
  let base : StepReq :=
    { offset := signedOf (n 1), action := n 2, phrases := none, zones := none, strokes := none, lines := none,
      group := none, floors := none, hold := none }
  match n 2 with
  | 0 => { base with phrases := some ((List.range (n 3)).map (fun k => n (4 + k))), zones := some (setAt bs (off + 4 + n 3)) }
  | 1 => { base with strokes := some (n 3), lines := some (setAt bs (off + 4)) }
  | 3 => { base with hold := some (n 3) }
  | 4 => { base with group := some (n 3), hold := some (n 4) }
  | 5 => { base with floors := some (setAt bs (off + 3)) }
  | _ => base

/-- The step slot `k` of the section. -/
def readStep (bs : List Byte) (k : Nat) : Option (Option ClosingStep) :=
  let off := 976 + 16 * k
  match numAt bs off 1 with
  | 0 => some none
  | 1 =>
    let v := readStepReq bs off
    match stepOf v with
    | some x => if stepUnclamped v then some (some x) else none
    | none => none
  | _ => none

/-- The settings of a section whose check holds, none when a value fails (R201). -/
def readSettings (bs : List Byte) : Option Settings := do
  let geom ← readGeometry bs
  let timing ← readTiming bs
  let zones ← readTab 8 (readZone bs)
  let shutters ← readTab 24 (readShutter bs)
  let bridges ← readBridges bs
  let codes ← readTab 16 (readCode bs)
  let stations ← readTab 48 (readStation bs codes)
  let bells ← readBells bs
  let evac ← readEvac bs
  let times ← readTab 7 (readTime bs)
  let steps ← readTab 16 (readStep bs)
  if offsetsOrdered steps.items then
    some { geom, timing, zones, shutters, bridges, codes, stations, bells, evac, times, steps }
  else none

/-- Where the settings of a start come from (R201). -/
inductive SettingsSource where
  | loaded
  | checkFailed
  | rangeFailed
deriving DecidableEq, Repr

def SettingsSource.code : SettingsSource → Nat
  | .loaded => 0 | .checkFailed => 1 | .rangeFailed => 2

/-- R201: the settings load from the bytes of the section. -/
def loadSettings (bs : List Byte) : Settings × SettingsSource :=
  if wordSum bs = settingsSum then
    match readSettings bs with
    | some c => (c, .loaded)
    | none => (defaultSettings, .rangeFailed)
  else (defaultSettings, .checkFailed)

end Sys2Proof.Machine
end

