-- ==== Sys2Proof/WellFormed.lean ====
section
/-! DEFINITION. Which terms of `Instr` are commands the part can be given: a request is well formed when its parameters
can be written in its frame (section 11.4), whatever the owner's range tests then say of their values. A field or timer
event carries its number in its type and has no further check, but for the code of CALL DUE TIME. -/

namespace Sys2Proof

/-- A value fits a field of `k` whole bytes. -/
def fits (k x : Nat) : Bool := x < 256 ^ k

/-- A member fits its byte: 0xFF is the ALL value. -/
def Member.fits : Member → Bool
  | .one n => n < 255
  | .all => true

/-- An optional value of one byte, for which 0xFF stands for none. -/
def fitsOpt1 : Option Nat → Bool
  | none => true
  | some x => x < 255

/-- An optional value of two bytes, for which 0xFFFF stands for none. -/
def fitsOpt2 : Option Nat → Bool
  | none => true
  | some x => x < 65535

/-- A list that fits a frame: a count byte, then one byte for each item. -/
def fitsList (xs : List Nat) : Bool := xs.length < 200 && xs.all (fits 1)

/-- Section 2.2: each value fits the fewest whole bytes that hold its range. -/
def LoopTiming.fits (v : LoopTiming) : Bool :=
  Sys2Proof.fits 1 v.pTol && Sys2Proof.fits 2 v.standstill && Sys2Proof.fits 2 v.tMin && Sys2Proof.fits 2 v.tMax
    && Sys2Proof.fits 2 v.tStart && Sys2Proof.fits 2 v.tNom && Sys2Proof.fits 2 v.tcMin && Sys2Proof.fits 3 v.tcMax
    && Sys2Proof.fits 1 v.decel && Sys2Proof.fits 1 v.rDrain && Sys2Proof.fits 2 v.drainNormal
    && Sys2Proof.fits 2 v.drainFire && Sys2Proof.fits 1 v.creepLimit && Sys2Proof.fits 1 v.creepDelay
    && Sys2Proof.fits 1 v.creepStop

/-- Section 5.9. -/
def BridgeParams.fits (v : BridgeParams) : Bool :=
  Sys2Proof.fits 1 v.sweep && Sys2Proof.fits 2 v.stall && Sys2Proof.fits 1 v.openThr && Sys2Proof.fits 2 v.dwell
    && Sys2Proof.fits 2 v.grace

/-- Section 6.8. -/
def BellTiming.fits (v : BellTiming) : Bool :=
  Sys2Proof.fits 1 v.onTime && Sys2Proof.fits 2 v.strokeGap && Sys2Proof.fits 2 v.groupGap
    && Sys2Proof.fits 2 v.codeGap && Sys2Proof.fits 2 v.firePeriod

/-- Section 3.2. -/
def ZoneReq.fits (v : ZoneReq) : Bool :=
  Sys2Proof.fits 1 v.enable && Sys2Proof.fits 1 v.floor && Sys2Proof.fits 2 v.t1 && Sys2Proof.fits 2 v.t2
    && Sys2Proof.fits 2 v.t3 && Sys2Proof.fits 1 v.h && Sys2Proof.fits 1 v.k

/-- Section 4.1. -/
def ShutterReq.fits (v : ShutterReq) : Bool :=
  Sys2Proof.fits 1 v.floor && Sys2Proof.fits 1 v.kind && fitsOpt1 v.opening && Sys2Proof.fits 1 v.priority
    && Sys2Proof.fits 1 v.travel && Sys2Proof.fits 1 v.retryDelay && Sys2Proof.fits 1 v.retryLimit
    && Sys2Proof.fits 1 v.firePause && Sys2Proof.fits 1 v.pauseLimit

/-- A step whose parameters can be written in a frame of DEFINE STEP: those of its action (section 9.2) and no others,
with the hold limit present or absent. An action without a code carries no parameter. -/
def StepReq.fits (v : StepReq) : Bool :=
  decide (-128 ≤ v.offset) && decide (v.offset < 128) && Sys2Proof.fits 1 v.action &&
  match v with
  | ⟨_, 0, some ps, some _, none, none, none, none, none⟩ => fitsList ps
  | ⟨_, 1, none, none, some n, some _, none, none, none⟩ => Sys2Proof.fits 1 n
  | ⟨_, 2, none, none, none, none, none, none, none⟩ => true
  | ⟨_, 3, none, none, none, none, none, none, hold⟩ => hold.all (Sys2Proof.fits 1)
  | ⟨_, 4, none, none, none, none, some g, none, hold⟩ => Sys2Proof.fits 1 g && hold.all (Sys2Proof.fits 1)
  | ⟨_, 5, none, none, none, none, none, some _, none⟩ => true
  | ⟨_, a, none, none, none, none, none, none, none⟩ => decide (6 ≤ a)
  | _ => false

/-- The command can be given to the part. -/
def Instr.wf : Instr → Bool
  | .powerOn | .resetPin | .serialByteReceived _ | .frameGapTimer | .replySent => true
  | .identify _ | .status _ => true
  | .fetchEvents _ count => fits 1 count
  | .clearFaults _ kind target => fits 1 kind && target.fits
  | .setLinkRate _ rate => fits 3 rate
  | .saveSettings _ | .restart _ => true
  | .defineLoop _ n l wMin => fits 1 n && fits 1 l && fits 1 wMin
  | .defineOpening _ o sill below above => fits 1 o && fits 2 sill && fits 1 below && fits 1 above
  | .defineLoopTiming _ v => v.fits
  | .loopStart _ | .loopDrain _ => true
  | .loopStop _ force => fits 1 force
  | .loopCreep _ => true
  | .landingLockout _ landing setting => landing.fits && fits 1 setting
  | .queryLoop _ | .queryCars _ => true
  | .queryLanding _ landing => landing.fits
  | .defineZone _ zone v => fits 1 zone && v.fits
  | .queryZones _ | .fireReset _ => true
  | .defineShutter _ shutter v => fits 1 shutter && v.fits
  | .shutterClose _ kind member => fits 1 kind && member.fits
  | .shutterOpen _ kind member => fits 1 kind && member.fits
  | .shutterTest _ shutter => fits 1 shutter
  | .queryShutter _ shutter => shutter.fits
  | .defineBridges _ v => v.fits
  | .queryBridges _ => true
  | .defineCode _ code groups urgency repeats =>
      fits 1 code && fitsList groups && fits 1 urgency && repeats.all (fun p => fits 1 p.1 && fits 2 p.2)
  | .defineStation _ station enable lineCode =>
      fits 1 station && fits 1 enable && lineCode.all (fun p => fits 1 p.1 && fits 1 p.2)
        && (enable != 1 || lineCode.isSome) && (enable != 0 || lineCode.isNone)
  | .defineBellTiming _ v => v.fits
  | .bellRing _ line code => line.fits && fits 1 code
  | .bellAnswer _ line code => line.fits && fits 1 code
  | .bellSilence _ line => line.fits
  | .queryBellLine _ line first => line.fits && fits 1 first
  | .phraseOpen _ phrase length => fits 1 phrase && fits 3 length
  | .phraseData _ phrase offset data => fits 1 phrase && fits 3 offset && decide (data.length ≤ 233)
  | .phraseClose _ phrase => fits 1 phrase
  | .phraseDelete _ phrase => fits 1 phrase
  | .queryPhrases _ first => fits 1 first
  | .defineEvacuation _ phrases => fitsList phrases
  | .announce _ _ phrases repeats => fitsList phrases && fits 1 repeats
  | .announceCancel _ handle => fits 1 handle
  | .queryAnnouncements _ => true
  | .setClock _ seconds weekday => fits 3 seconds && fits 1 weekday
  | .defineClosingTimes _ times => decide (times.length = 7) && times.all fitsOpt2
  | .defineStep _ slot step => fits 1 slot && step.all StepReq.fits
  | .closingStart _ => true
  | .closingDelay _ minutes => fits 1 minutes
  | .closingAbort _ => true
  | .queryClosing _ first => fits 1 first
  | .countPulse | .pitchPulse | .datumPulse | .standstillTimer | .windowTimer | .drainTimer | .creepDelayTimer => true
  | .scanEvent _ _ | .conversionComplete _ => true
  | .openGraceTimer _ | .travelTimer _ | .retryTimer _ | .pauseTimer _ => true
  | .checkSettingEnd _ _ _ | .dwellTimer _ | .sweepTimer => true
  | .strikerOnTimeEnd _ | .lineTimer _ => true
  | .callDueTime _ _ code => decide (code < 16)
  | .flashTimer _ => true
  | .writeTransferDone | .blockReadDone | .blockPlayEnd _ | .passGapTimer _ => true
  | .secondTick | .holdTimer | .audioSample => true

end Sys2Proof
end

