-- ==== Sys2Proof/Decode.lean ====
section
/-! DEFINITION. From bits to commands. The table of operations gives its rows no bits, so no word spells a command; what the
part itself decodes is the body of a request frame (R192, section 11.4), and that decoding stands here with its
encoder. -/

namespace Sys2Proof

open Sys2Proof.Machine (bytesLE fromLE signedLE optLE numAt signedOf)

/-- The command a word spells by the bits of the table: the table gives no row any bits. -/
def decodeTableWord (_nbits _w : Nat) : Option Instr := none

/-! ### Parameters (section 11.4) -/

/-- What the dispatch makes of a body: a request, or one of the two refusals of R192. -/
inductive Decoded where
  | request (i : Instr)
  | malformed
  | unknownKind
deriving DecidableEq, Repr

/-- A single member, or ALL as 0xFF. -/
def memberOf (b : Byte) : Member := if b = 0xFF#8 then .all else .one b.toNat

def Member.byte : Member → Byte
  | .one n => BitVec.ofNat 8 n
  | .all => 0xFF#8

/-- A two-byte number. -/
def num2 (a b : Byte) : Nat := fromLE [a, b]

/-- A three-byte number. -/
def num3 (a b c : Byte) : Nat := fromLE [a, b, c]

/-- An optional one-byte value, 0xFF for none. -/
def opt1 (b : Byte) : Option Nat := if b = 0xFF#8 then none else some b.toNat

/-- An optional two-byte value, 0xFFFF for none. -/
def opt2 (a b : Byte) : Option Nat := if a = 0xFF#8 ∧ b = 0xFF#8 then none else some (num2 a b)

/-- A list of one-byte items. -/
def items (bs : List Byte) : List Nat := bs.map BitVec.toNat

/-- The parameters of a request that has none. -/
def noParams (i : Instr) : List Byte → Decoded
  | [] => .request i
  | _ => .malformed

/-- The one-byte parameter of a request. -/
def oneByte (f : Byte → Instr) : List Byte → Decoded
  | [a] => .request (f a)
  | _ => .malformed

/-- Two one-byte parameters. -/
def twoBytes (f : Byte → Byte → Instr) : List Byte → Decoded
  | [a, b] => .request (f a b)
  | _ => .malformed

/-- A three-byte parameter. -/
def oneTriple (f : Nat → Instr) : List Byte → Decoded
  | [a, b, c] => .request (f (num3 a b c))
  | _ => .malformed

def decodeLoopTiming (tag : Byte) : List Byte → Decoded
  | [a, b0, b1, c0, c1, d0, d1, e0, e1, f0, f1, g0, g1, h0, h1, h2, i, j, k0, k1, l0, l1, m, n, o] =>
    .request (.defineLoopTiming tag
      { pTol := a.toNat, standstill := num2 b0 b1, tMin := num2 c0 c1, tMax := num2 d0 d1, tStart := num2 e0 e1,
        tNom := num2 f0 f1, tcMin := num2 g0 g1, tcMax := num3 h0 h1 h2, decel := i.toNat, rDrain := j.toNat,
        drainNormal := num2 k0 k1, drainFire := num2 l0 l1, creepLimit := m.toNat, creepDelay := n.toNat,
        creepStop := o.toNat })
  | _ => .malformed

def decodeZone (tag : Byte) : List Byte → Decoded
  | [z, e, f, a0, a1, b0, b1, c0, c1, h, k] =>
    .request (.defineZone tag z.toNat
      { enable := e.toNat, floor := f.toNat, t1 := num2 a0 a1, t2 := num2 b0 b1, t3 := num2 c0 c1, h := h.toNat,
        k := k.toNat })
  | _ => .malformed

def decodeShutter (tag : Byte) : List Byte → Decoded
  | [i, f, k, o, zs, gs, p, tr, rd, rl, fp, pl] =>
    .request (.defineShutter tag i.toNat
      { floor := f.toNat, kind := k.toNat, opening := opt1 o, zones := zs, groups := gs, priority := p.toNat,
        travel := tr.toNat, retryDelay := rd.toNat, retryLimit := rl.toNat, firePause := fp.toNat,
        pauseLimit := pl.toNat })
  | _ => .malformed

def decodeBridges (tag : Byte) : List Byte → Decoded
  | [a, b0, b1, c, d0, d1, e0, e1] =>
    .request (.defineBridges tag
      { sweep := a.toNat, stall := num2 b0 b1, openThr := c.toNat, dwell := num2 d0 d1, grace := num2 e0 e1 })
  | _ => .malformed

def decodeBellTiming (tag : Byte) : List Byte → Decoded
  | [a, b0, b1, c0, c1, d0, d1, e0, e1] =>
    .request (.defineBellTiming tag
      { onTime := a.toNat, strokeGap := num2 b0 b1, groupGap := num2 c0 c1, codeGap := num2 d0 d1,
        firePeriod := num2 e0 e1 })
  | _ => .malformed

/-- R117: the two lengths that a group count gives. -/
def decodeCode (tag : Byte) : List Byte → Decoded
  | c :: n :: rest =>
    match rest.drop n.toNat with
    | [u] => .request (.defineCode tag c.toNat (items (rest.take n.toNat)) u.toNat none)
    | [u, m, t0, t1] =>
      .request (.defineCode tag c.toNat (items (rest.take n.toNat)) u.toNat (some (m.toNat, num2 t0 t1)))
    | _ => .malformed
  | _ => .malformed

/-- R118: with enable 1 a line and a code are carried, and with enable 0 they are not. Another enable flag is the
owner's to refuse (log entry 17). -/
def decodeStation (tag : Byte) : List Byte → Decoded
  | [n, e] => if e = 1#8 then .malformed else .request (.defineStation tag n.toNat e.toNat none)
  | [n, e, l, c] =>
    if e = 0#8 then .malformed else .request (.defineStation tag n.toNat e.toNat (some (l.toNat, c.toNat)))
  | _ => .malformed

/-- R143: the data count gives the length. -/
def decodeData (tag : Byte) : List Byte → Decoded
  | p :: a :: b :: c :: n :: rest =>
    if rest.length = n.toNat then .request (.phraseData tag p.toNat (num3 a b c) rest) else .malformed
  | _ => .malformed

/-- R165: the phrase count gives the length. -/
def decodeEvacuation (tag : Byte) : List Byte → Decoded
  | n :: rest => if rest.length = n.toNat then .request (.defineEvacuation tag (items rest)) else .malformed
  | _ => .malformed

/-- R156: the phrase count gives the length. -/
def decodeAnnounce (tag : Byte) : List Byte → Decoded
  | zs :: n :: rest =>
    match rest.drop n.toNat with
    | [r] => if n.toNat ≤ rest.length then .request (.announce tag zs (items (rest.take n.toNat)) r.toNat) else .malformed
    | _ => .malformed
  | _ => .malformed

/-- Seven closing times of two bytes each. -/
def decodeTimes (tag : Byte) : List Byte → Decoded
  | [a, b, c, d, e, f, g, h, i, j, k, l, m, n] =>
    .request (.defineClosingTimes tag
      [opt2 a b, opt2 c d, opt2 e f, opt2 g h, opt2 i j, opt2 k l, opt2 m n])
  | _ => .malformed

/-- The step of a DEFINE STEP from its offset on (section 9.2); none where the length does not suit the action, also where
the bytes hold a parameter that does not belong to it, which is MALFORMED and not BAD_VALUE (DESIGN CHOICE, log entry 85). An
action without a code carries no parameter (log entry 17). -/
def decodeStepReq (o a : Byte) (ps : List Byte) : Option StepReq :=
  let base : StepReq :=
    { offset := signedOf o.toNat, action := a.toNat, phrases := none, zones := none, strokes := none, lines := none,
      group := none, floors := none, hold := none }
  match a.toNat, ps with
  | 0, n :: rest =>
    match rest.drop n.toNat with
    | [zs] =>
      if n.toNat ≤ rest.length then some { base with phrases := some (items (rest.take n.toNat)), zones := some zs }
      else none
    | _ => none
  | 1, [n, ls] => some { base with strokes := some n.toNat, lines := some ls }
  | 2, [] => some base
  | 3, [] => some base
  | 3, [h] => some { base with hold := some h.toNat }
  | 4, [g] => some { base with group := some g.toNat }
  | 4, [g, h] => some { base with group := some g.toNat, hold := some h.toNat }
  | 5, [fs] => some { base with floors := some fs }
  | n + 6, [] => some { base with action := n + 6 }
  | _, _ => none

def decodeStep (tag : Byte) : List Byte → Decoded
  | [k] => .request (.defineStep tag k.toNat none)
  | k :: o :: a :: rest =>
    match decodeStepReq o a rest with
    | some x => .request (.defineStep tag k.toNat (some x))
    | none => .malformed
  | _ => .malformed

/-- R192: the parameters of a request with the kind and the tag. -/
def decodeParams (kind : Nat) (tag : Byte) (ps : List Byte) : Decoded :=
  match kind with
  | 0x01 => noParams (.identify tag) ps
  | 0x02 => noParams (.status tag) ps
  | 0x03 => oneByte (fun n => .fetchEvents tag n.toNat) ps
  | 0x04 => twoBytes (fun k t => .clearFaults tag k.toNat (memberOf t)) ps
  | 0x05 =>
    match ps with
    | [a, b, c, w] => .request (.setClock tag (num3 a b c) w.toNat)
    | _ => .malformed
  | 0x06 => oneTriple (fun r => .setLinkRate tag r) ps
  | 0x07 => noParams (.saveSettings tag) ps
  | 0x08 => noParams (.restart tag) ps
  | 0x10 =>
    match ps with
    | [n, l, w] => .request (.defineLoop tag n.toNat l.toNat w.toNat)
    | _ => .malformed
  | 0x11 =>
    match ps with
    | [o, a, b, c, d] => .request (.defineOpening tag o.toNat (num2 a b) c.toNat d.toNat)
    | _ => .malformed
  | 0x12 => decodeLoopTiming tag ps
  | 0x13 => noParams (.loopStart tag) ps
  | 0x14 => noParams (.loopDrain tag) ps
  | 0x15 => oneByte (fun f => .loopStop tag f.toNat) ps
  | 0x16 => noParams (.loopCreep tag) ps
  | 0x17 => twoBytes (fun l x => .landingLockout tag (memberOf l) x.toNat) ps
  | 0x18 => noParams (.queryLoop tag) ps
  | 0x19 => noParams (.queryCars tag) ps
  | 0x1A => oneByte (fun l => .queryLanding tag (memberOf l)) ps
  | 0x20 => decodeZone tag ps
  | 0x21 => noParams (.queryZones tag) ps
  | 0x22 => noParams (.fireReset tag) ps
  | 0x28 => decodeShutter tag ps
  | 0x29 => twoBytes (fun k m => .shutterClose tag k.toNat (memberOf m)) ps
  | 0x2A => twoBytes (fun k m => .shutterOpen tag k.toNat (memberOf m)) ps
  | 0x2B => oneByte (fun i => .shutterTest tag i.toNat) ps
  | 0x2C => oneByte (fun i => .queryShutter tag (memberOf i)) ps
  | 0x2D => decodeBridges tag ps
  | 0x2E => noParams (.queryBridges tag) ps
  | 0x30 => decodeCode tag ps
  | 0x31 => decodeStation tag ps
  | 0x32 => decodeBellTiming tag ps
  | 0x33 => twoBytes (fun l c => .bellRing tag (memberOf l) c.toNat) ps
  | 0x34 => twoBytes (fun l c => .bellAnswer tag (memberOf l) c.toNat) ps
  | 0x35 => oneByte (fun l => .bellSilence tag (memberOf l)) ps
  | 0x36 => twoBytes (fun l n => .queryBellLine tag (memberOf l) n.toNat) ps
  | 0x40 =>
    match ps with
    | [p, a, b, c] => .request (.phraseOpen tag p.toNat (num3 a b c))
    | _ => .malformed
  | 0x41 => decodeData tag ps
  | 0x42 => oneByte (fun p => .phraseClose tag p.toNat) ps
  | 0x43 => oneByte (fun p => .phraseDelete tag p.toNat) ps
  | 0x44 => oneByte (fun p => .queryPhrases tag p.toNat) ps
  | 0x48 => decodeEvacuation tag ps
  | 0x49 => decodeAnnounce tag ps
  | 0x4A => oneByte (fun h => .announceCancel tag h.toNat) ps
  | 0x4B => noParams (.queryAnnouncements tag) ps
  | 0x50 => decodeTimes tag ps
  | 0x51 => decodeStep tag ps
  | 0x52 => noParams (.closingStart tag) ps
  | 0x53 => oneByte (fun m => .closingDelay tag m.toNat) ps
  | 0x54 => noParams (.closingAbort tag) ps
  | 0x55 => oneByte (fun k => .queryClosing tag k.toNat) ps
  | _ => .unknownKind

/-- R192: the body of a good frame: the kind, the tag and the parameters. -/
def decodeBody : List Byte → Decoded
  | kind :: tag :: ps => decodeParams kind.toNat tag ps
  | _ => .malformed

/-! ### The encoder -/

/-- A list: a count byte, then the items. -/
def listOf (xs : List Nat) : List Byte := bytesLE 1 xs.length ++ xs.map (BitVec.ofNat 8)

/-- A set that is present. -/
def setOf (x : Option Set8) : List Byte := x.toList

/-- The parameters of a step from the offset on (section 9.2). -/
def encodeStep (v : StepReq) : List Byte :=
  signedLE 1 v.offset ++ bytesLE 1 v.action ++ (v.phrases.map listOf).getD [] ++ setOf v.zones
    ++ (v.strokes.map (bytesLE 1)).getD [] ++ setOf v.lines ++ (v.group.map (bytesLE 1)).getD [] ++ setOf v.floors
    ++ (v.hold.map (bytesLE 1)).getD []

/-- The fifteen timing values in the order of section 2.2. -/
def encodeTiming (v : LoopTiming) : List Byte :=
  bytesLE 1 v.pTol ++ bytesLE 2 v.standstill ++ bytesLE 2 v.tMin ++ bytesLE 2 v.tMax ++ bytesLE 2 v.tStart
    ++ bytesLE 2 v.tNom ++ bytesLE 2 v.tcMin ++ bytesLE 3 v.tcMax ++ bytesLE 1 v.decel ++ bytesLE 1 v.rDrain
    ++ bytesLE 2 v.drainNormal ++ bytesLE 2 v.drainFire ++ bytesLE 1 v.creepLimit ++ bytesLE 1 v.creepDelay
    ++ bytesLE 1 v.creepStop

/-- A zone definition from the enable flag on. -/
def encodeZone (v : ZoneReq) : List Byte :=
  bytesLE 1 v.enable ++ bytesLE 1 v.floor ++ bytesLE 2 v.t1 ++ bytesLE 2 v.t2 ++ bytesLE 2 v.t3 ++ bytesLE 1 v.h
    ++ bytesLE 1 v.k

/-- A shutter definition from the floor on. -/
def encodeShutter (v : ShutterReq) : List Byte :=
  bytesLE 1 v.floor ++ bytesLE 1 v.kind ++ optLE 1 v.opening ++ [v.zones, v.groups] ++ bytesLE 1 v.priority
    ++ bytesLE 1 v.travel ++ bytesLE 1 v.retryDelay ++ bytesLE 1 v.retryLimit ++ bytesLE 1 v.firePause
    ++ bytesLE 1 v.pauseLimit

/-- The five bridge values. -/
def encodeBridges (v : BridgeParams) : List Byte :=
  bytesLE 1 v.sweep ++ bytesLE 2 v.stall ++ bytesLE 1 v.openThr ++ bytesLE 2 v.dwell ++ bytesLE 2 v.grace

/-- The five bell timing values. -/
def encodeBells (v : BellTiming) : List Byte :=
  bytesLE 1 v.onTime ++ bytesLE 2 v.strokeGap ++ bytesLE 2 v.groupGap ++ bytesLE 2 v.codeGap ++ bytesLE 2 v.firePeriod

/-- The body that asks for a request; none for an event, which no frame carries. -/
def encodeBody : Instr → Option (List Byte)
  | .identify t => some [0x01#8, t]
  | .status t => some [0x02#8, t]
  | .fetchEvents t n => some (0x03#8 :: t :: bytesLE 1 n)
  | .clearFaults t k m => some (0x04#8 :: t :: (bytesLE 1 k ++ [m.byte]))
  | .setClock t c w => some (0x05#8 :: t :: (bytesLE 3 c ++ bytesLE 1 w))
  | .setLinkRate t r => some (0x06#8 :: t :: bytesLE 3 r)
  | .saveSettings t => some [0x07#8, t]
  | .restart t => some [0x08#8, t]
  | .defineLoop t n l w => some (0x10#8 :: t :: (bytesLE 1 n ++ bytesLE 1 l ++ bytesLE 1 w))
  | .defineOpening t o s b a => some (0x11#8 :: t :: (bytesLE 1 o ++ bytesLE 2 s ++ bytesLE 1 b ++ bytesLE 1 a))
  | .defineLoopTiming t v => some (0x12#8 :: t :: encodeTiming v)
  | .loopStart t => some [0x13#8, t]
  | .loopDrain t => some [0x14#8, t]
  | .loopStop t f => some (0x15#8 :: t :: bytesLE 1 f)
  | .loopCreep t => some [0x16#8, t]
  | .landingLockout t l x => some (0x17#8 :: t :: (l.byte :: bytesLE 1 x))
  | .queryLoop t => some [0x18#8, t]
  | .queryCars t => some [0x19#8, t]
  | .queryLanding t l => some [0x1A#8, t, l.byte]
  | .defineZone t z v => some (0x20#8 :: t :: (bytesLE 1 z ++ encodeZone v))
  | .queryZones t => some [0x21#8, t]
  | .fireReset t => some [0x22#8, t]
  | .defineShutter t i v => some (0x28#8 :: t :: (bytesLE 1 i ++ encodeShutter v))
  | .shutterClose t k m => some (0x29#8 :: t :: (bytesLE 1 k ++ [m.byte]))
  | .shutterOpen t k m => some (0x2A#8 :: t :: (bytesLE 1 k ++ [m.byte]))
  | .shutterTest t i => some (0x2B#8 :: t :: bytesLE 1 i)
  | .queryShutter t i => some [0x2C#8, t, i.byte]
  | .defineBridges t v => some (0x2D#8 :: t :: encodeBridges v)
  | .queryBridges t => some [0x2E#8, t]
  | .defineCode t c gs u r =>
    some (0x30#8 :: t :: (bytesLE 1 c ++ listOf gs ++ bytesLE 1 u
      ++ (match r with
          | none => []
          | some p => bytesLE 1 p.1 ++ bytesLE 2 p.2)))
  | .defineStation t n e lc =>
    some (0x31#8 :: t :: (bytesLE 1 n ++ bytesLE 1 e
      ++ (match lc with
          | none => []
          | some p => bytesLE 1 p.1 ++ bytesLE 1 p.2)))
  | .defineBellTiming t v => some (0x32#8 :: t :: encodeBells v)
  | .bellRing t l c => some (0x33#8 :: t :: l.byte :: bytesLE 1 c)
  | .bellAnswer t l c => some (0x34#8 :: t :: l.byte :: bytesLE 1 c)
  | .bellSilence t l => some [0x35#8, t, l.byte]
  | .queryBellLine t l n => some (0x36#8 :: t :: l.byte :: bytesLE 1 n)
  | .phraseOpen t p n => some (0x40#8 :: t :: (bytesLE 1 p ++ bytesLE 3 n))
  | .phraseData t p o bs => some (0x41#8 :: t :: (bytesLE 1 p ++ bytesLE 3 o ++ bytesLE 1 bs.length ++ bs))
  | .phraseClose t p => some (0x42#8 :: t :: bytesLE 1 p)
  | .phraseDelete t p => some (0x43#8 :: t :: bytesLE 1 p)
  | .queryPhrases t p => some (0x44#8 :: t :: bytesLE 1 p)
  | .defineEvacuation t ps => some (0x48#8 :: t :: listOf ps)
  | .announce t zs ps r => some (0x49#8 :: t :: zs :: (listOf ps ++ bytesLE 1 r))
  | .announceCancel t h => some (0x4A#8 :: t :: bytesLE 1 h)
  | .queryAnnouncements t => some [0x4B#8, t]
  | .defineClosingTimes t ts => some (0x50#8 :: t :: ts.flatMap (optLE 2))
  | .defineStep t k x =>
    some (0x51#8 :: t :: (bytesLE 1 k
      ++ (match x with
          | none => []
          | some v => encodeStep v)))
  | .closingStart t => some [0x52#8, t]
  | .closingDelay t m => some (0x53#8 :: t :: bytesLE 1 m)
  | .closingAbort t => some [0x54#8, t]
  | .queryClosing t k => some (0x55#8 :: t :: bytesLE 1 k)
  | .powerOn | .resetPin | .serialByteReceived _ | .frameGapTimer | .replySent => none
  | .countPulse | .pitchPulse | .datumPulse | .standstillTimer | .windowTimer | .drainTimer | .creepDelayTimer => none
  | .scanEvent _ _ | .conversionComplete _ => none
  | .openGraceTimer _ | .travelTimer _ | .retryTimer _ | .pauseTimer _ => none
  | .checkSettingEnd _ _ _ | .dwellTimer _ | .sweepTimer => none
  | .strikerOnTimeEnd _ | .lineTimer _ | .callDueTime _ _ _ | .flashTimer _ => none
  | .writeTransferDone | .blockReadDone | .blockPlayEnd _ | .passGapTimer _ => none
  | .secondTick | .holdTimer | .audioSample => none

end Sys2Proof
end

