-- ==== Sys2Proof/Machine/Flags.lean ====
section
/-! DEFINITION. What the part's outputs and flags show of its state: the loop outputs and the landing lamps (R25, R21),
the settled condition (R26), the attention line (R197), the summary byte (R193), the outputs of the bridges (sections 5.1
and 5.3) and the field outputs (section 11.3). -/

namespace Sys2Proof.Machine

/-- R25: the RUN contactor is closed. -/
def runClosed (s : State) : Bool :=
  match s.loop.st with
  | .referencing | .starting | .running | .draining | .stopping => true
  | .unconfigured | .unreferenced | .braking | .parked | .stoppedFoul | .creeping | .faultStop => false

/-- R25: the CREEP contactor is closed. -/
def creepClosed (s : State) : Bool := s.loop.st == .creeping

/-- A contactor is closed; the brake is then released, and applied otherwise (R25). -/
def contactorClosed (s : State) : Bool := runClosed s || creepClosed s

/-- R25: the brake is released. -/
def brakeReleased (s : State) : Bool := contactorClosed s

/-- R26: the loop is settled. -/
def settled (s : State) : Bool :=
  match s.loop.st with
  | .unconfigured | .unreferenced | .parked => true
  | .faultStop => s.loop.standstill
  | .stoppedFoul => s.loop.exhausted
  | .referencing | .starting | .running | .draining | .stopping | .braking | .creeping => false

/-- R21: the landing lamp of opening `o` shows GO. -/
def lampGo (s : State) (o : Nat) : Bool :=
  s.loop.st == .running && (s.cfg.geom.openings.get o).isSome && decide (o / 2 < s.cfg.geom.landings)
    && !s.loop.lockout.get (o / 2)

/-- Some fire zone is in OPEN_FAULT or SHORT_FAULT (R66). -/
def zoneFaulted (s : State) : Bool :=
  s.fire.zones.items.any (fun z => z.st == .openFault || z.st == .shortFault)

/-- Some shutter has a fault (R95). -/
def shutterFaulted (s : State) : Bool := s.shutters.items.any (fun x => x.fault.isSome)

/-- Some bridge is OUT_OF_SERVICE (R100). -/
def bridgeOut (s : State) : Bool := s.bridges.units.items.any (fun b => b.st == .outOfService)

/-- R197: a standing condition exists. -/
def standingCondition (s : State) : Bool :=
  s.fire.latch || s.loop.st == .faultStop || shutterFaulted s || bridgeOut s || zoneFaulted s || s.field.lost

/-- R197: the attention line is asserted. -/
def attention (s : State) : Bool := !s.link.events.isEmpty || standingCondition s

/-- The summary byte of section 11.4 from its six flags. -/
def summaryByte (restarted dropped att fire lost dflt : Bool) : Byte :=
  BitVec.ofNat 8 ((if restarted then 1 else 0) + (if dropped then 2 else 0) + (if att then 4 else 0)
    + (if fire then 8 else 0) + (if lost then 16 else 0) + (if dflt then 32 else 0))

/-- R193: the summary of a reply composed now, with EVENTS_LOST as given. -/
def summaryWith (eventsLost : Bool) (s : State) : Byte :=
  summaryByte s.link.restarted s.link.dropped (attention s) s.fire.latch eventsLost s.link.settingsDefault

/-- R193: the summary of a reply composed now. -/
def summary (s : State) : Byte := summaryWith s.link.eventsLost s

/-- R119: a lamp that flashes is lit for 125 ms and dark for 125 ms, an UNANSWERED one for 500 ms each, by the running
time (R205). -/
def stationLampLit (s : State) (n : Nat) : Bool :=
  let lamp := s.bells.lamps.get n
  match lamp.flash with
  | some _ => decide (s.time.now / 125 % 2 = 0)
  | none =>
    match lamp.steady with
    | .off => false
    | .pending => true
    | .unanswered => decide (s.time.now / 500 % 2 = 0)

/-- The bridge a shutter is connected to (R101). -/
def bridgeOf (s : State) (i : Nat) : Option Nat :=
  (List.range 4).find? (fun b => (bridgeAt s b).shutter == some i)

/-- R105: the setting in force in a check that has read `levels` so far. -/
def settingOf (levels : List (Bool × Bool)) : CheckSetting :=
  match levels with
  | [] => .rest
  | [_] => .liftA
  | _ => .liftB

/-- Section 5.3: which of the terminals A and B a setting pulls high; the other is pulled low. -/
def CheckSetting.pulls : CheckSetting → Bool × Bool
  | .rest => (false, false)
  | .liftA => (true, false)
  | .liftB => (false, true)

/-- Section 5.1, R105, R108: the output of a bridge follows its state. -/
def BridgeState.output : BridgeState → BridgeOutput
  | .free | .outOfService => .floating
  | .checking _ levels _ => .test (settingOf levels).pulls.1 (settingOf levels).pulls.2
  | .driving raise _ _ _ => .drive raise
  | .dwell _ _ _ => .shorted

/-- The output of bridge `b`. -/
def bridgeOutput (s : State) (b : Nat) : BridgeOutput := (bridgeAt s b).st.output

/-- The commanded value of the field output `p`, numbered 16·card + position (section 11.3). -/
def outputAt (s : State) (p : Nat) : Bool :=
  let enable (i : Nat) : Bool := (bridgeOf s i).isSome
  let bit (k i : Nat) : Bool := (bridgeOf s i).any (fun b => b.testBit k)
  if p < 16 then lampGo s p
  else if p < 32 then enable (p - 16)
  else if p < 48 then bit 0 (p - 32)
  else if p < 64 then bit 1 (p - 48)
  else if p < 72 then enable (p - 64 + 16)
  else if p < 80 then bit 0 (p - 72 + 16)
  else if p < 88 then bit 1 (p - 80 + 16)
  else if 144 ≤ p && p < 192 then stationLampLit s (p - 144)
  else false

/-- The commanded values of all 256 field outputs. -/
def outputs (s : State) : BitVec 256 :=
  BitVec.ofNat 256 ((List.range 256).foldl (fun m p => if outputAt s p then m + 2 ^ p else m) 0)

end Sys2Proof.Machine
end

