-- ==== Sys2Proof/Machine/Shutters.lean ====
section
/-! DEFINITION. Shutters and drive bridges: the operations of chapters 4 and 5 that their commands share (demands, the
opening interlock, the grant queue, drives, obstructions, faults, the fire behaviour and the idle sweep). -/

namespace Sys2Proof.Machine

/-! ### Limits and motion (R71) -/

/-- R71: the motion state the two limits give; STOPPED_MID while one of them has no accepted value. -/
def limitsMotion (s : State) (i : Nat) : Motion :=
  match acceptedAt s (topLimitPoint i), acceptedAt s (bottomLimitPoint i) with
  | some true, some false => .open
  | some false, some true => .closed
  | _, _ => .stoppedMid

/-- Both limits of the shutter are active. -/
def bothLimits (s : State) (i : Nat) : Bool := active s (topLimitPoint i) && active s (bottomLimitPoint i)

/-- The shutter is LOWERING or RAISING (R71). -/
def Motion.driven : Motion → Bool
  | .lowering | .raising => true
  | .open | .closed | .stoppedMid => false

/-! ### Demands -/

/-- The rank of a class (section 4.3): higher replaces lower. -/
def DemandClass.rank : DemandClass → Nat
  | .fire => 2 | .closing => 1 | .host => 0

/-- The motion state a demand is after; a TEST demand is after none. -/
def DemandDir.target : DemandDir → Option Motion
  | .close => some .closed
  | .open => some .open
  | .test => none

def demandOf (s : State) (i : Nat) : Option Demand := (shutterAt s i).demand

/-- The shutter has a demand, and it has the status `st`. -/
def hasStatus (s : State) (i : Nat) (st : DemandStatus) : Bool := (demandOf s i).any (fun d => d.status == st)

/-- The shutter has a demand of the class `c`. -/
def hasClass (s : State) (i : Nat) (c : DemandClass) : Bool := (demandOf s i).any (fun d => d.cls == c)

def setDemand (i : Nat) (d : Option Demand) (s : State) : State := modShutter i (fun x => { x with demand := d }) s

def setStatus (i : Nat) (st : DemandStatus) (s : State) : State :=
  modShutter i (fun x => { x with demand := x.demand.map (fun d => { d with status := st }) }) s

/-- The shutter is at the state its demand is after. -/
def atTarget (s : State) (i : Nat) (dir : DemandDir) : Bool := dir.target == some (shutterAt s i).motion

/-- The opening of a shutter of kind OPENING. -/
def openingOf (s : State) (i : Nat) : Option Nat :=
  match shutterDef s i with
  | some d => if d.kind = .opening then d.opening else none
  | none => none

/-! ### The opening interlock (R77) -/

/-- R77: the first failing condition of the interlock of a close demand, none when it passes or does not apply. -/
def interlockFails (s : State) (i : Nat) : Option Nat :=
  match openingOf s i with
  | none => none
  | some o =>
    if !settled s then some 1
    else if active s (sillPoint o) then some 2
    else if openingClear s o then none
    else some 3

/-- R26: the lowest-numbered OPENING shutter that is not OPEN or has a close demand on its way to a bridge or on it. -/
def openingShutterFails (s : State) : Option Nat :=
  (definedShutters s).find? (fun i =>
    (shutterDef s i).any (fun d => d.kind == .opening) &&
      ((shutterAt s i).motion != .open ||
        (demandOf s i).any (fun d => d.dir == .close &&
          (d.status == .waitingBridge || d.status == .checking || d.status == .moving || d.status == .paused))))

/-- The bridge that makes a sweep check on the shutter. -/
def sweepOf (s : State) (i : Nat) : Option Nat :=
  (List.range 4).find? (fun b =>
    (bridgeAt s b).shutter == some i &&
      (match (bridgeAt s b).st with
       | .checking .sweep _ _ => true
       | _ => false))

/-- The check in progress on the bridge goes on with another purpose (R75). -/
def setPurpose (b : Nat) (p : Purpose) (s : State) : State :=
  modBridge b (fun x =>
    match x.st with
    | .checking _ lv due => { x with st := .checking p lv due }
    | _ => x) s

/-- The demand enters WAITING_BRIDGE, or takes a sweep check of its shutter over as its own check (R75, R109). -/
def toBridge (i : Nat) (s : State) : State :=
  match sweepOf s i with
  | some b =>
    setPurpose b (if (demandOf s i).any (fun d => d.dir == .test) then .test else .preTravel)
      (setStatus i .checking s)
  | none => setStatus i .waitingBridge s

/-- R77: the demand enters HELD_BY_LOOP with failing condition `k`. -/
def holdByLoop (i k : Nat) (s : State) : State :=
  queueEvent .shutterHeld (some i) k (setStatus i .heldByLoop s)

/-- The demand is offered a bridge: a close demand on an OPENING shutter through the interlock (R74, R77). -/
def offerBridge (i : Nat) (s : State) : State :=
  match demandOf s i with
  | none => s
  | some d =>
    if d.dir = .close then
      match interlockFails s i with
      | some k => holdByLoop i k s
      | none => toBridge i s
    else toBridge i s

/-- R78: held demands that now pass enter WAITING_BRIDGE, and waiting close demands on OPENING shutters that now fail
return to HELD_BY_LOOP. The shutters are taken in ascending id (DESIGN CHOICE, log entry 54). -/
def reexamine (s : State) : State :=
  forEach (definedShutters s) (fun i t =>
    match demandOf t i with
    | none => t
    | some d =>
      if d.dir = .close then
        match d.status, interlockFails t i with
        | .heldByLoop, none => toBridge i t
        | .waitingBridge, some k => holdByLoop i k t
        | _, _ => t
      else t) s

/-! ### Bridges: dwell and connection (R101, R108, R113) -/

/-- R108: the bridge enters DWELL with the dwell time in force, its shutter still connected. -/
def enterDwell (b : Nat) (travelled : Bool) (s : State) : State :=
  modBridge b (fun x => { x with st := .dwell (some (inMs s s.cfg.bridges.dwell)) false travelled }) s

/-- R101, R113: the connection is broken, and the bridge becomes FREE, or OUT_OF_SERVICE with BRIDGE_OUT when its
withdrawal is pending. Withdrawal pending is then clear (DESIGN CHOICE, log entry 51). -/
def freeBridge (b : Nat) (s : State) : State :=
  match (bridgeAt s b).withdrawn with
  | some (x, y) =>
    queueEvent .bridgeOut (some b) (x + 256 * y)
      (modBridge b (fun r => { r with st := .outOfService, shutter := none, withdrawn := none }) s)
  | none => modBridge b (fun r => { r with st := .free, shutter := none }) s

/-- A drive on the shutter stops: its bridge enters DWELL, the travel timer stops and the motion state is taken from the
limits (R71, R108). A shutter that is not driven is left as it is. -/
def stopDrive (i : Nat) (s : State) : State :=
  match bridgeOf s i with
  | none => s
  | some b =>
    match (bridgeAt s b).st with
    | .driving _ _ _ _ =>
      modShutter i (fun x => { x with motion := limitsMotion s i, travel := none }) (enterDwell b true s)
    | _ => s

/-- A check on the shutter made for a demand is abandoned: its bridge enters DWELL (R105, R108). -/
def abandonCheck (i : Nat) (s : State) : State :=
  match bridgeOf s i with
  | none => s
  | some b =>
    match (bridgeAt s b).st with
    | .checking _ _ _ => enterDwell b false s
    | _ => s

/-- The hold on the shutter's bridge ends with no drive to follow: the dwell runs to its end, or has run it (R108). -/
def endHold (i : Nat) (s : State) : State :=
  match bridgeOf s i with
  | none => s
  | some b =>
    match (bridgeAt s b).st with
    | .dwell none true _ => freeBridge b s
    | .dwell (some t) true tr => modBridge b (fun x => { x with st := .dwell (some t) false tr }) s
    | _ => s

/-! ### Ending demands and recording faults (R94, R95) -/

/-- R94: the demand in force is ended according to its status, without a DEMAND_CANCELLED. -/
def dropDemand (i : Nat) (s : State) : State :=
  match demandOf s i with
  | none => s
  | some d =>
    setDemand i none
      (match d.status with
       | .heldByLoop | .waitingBridge | .dwelling => s
       | .retryWait => modShutter i (fun x => { x with retry := none }) s
       | .checking => abandonCheck i s
       | .moving | .recovering => stopDrive i s
       | .paused => endHold i (modShutter i (fun x => { x with pause := none }) s))

/-- R94: the demand is cancelled by the fire latch or by FIRE RESET, with DEMAND_CANCELLED. -/
def cancelDemand (i : Nat) (s : State) : State :=
  match demandOf s i with
  | none => s
  | some d => queueEvent .demandCancelled (some i) d.cls.code (dropDemand i s)

/-- R95: a HOST or CLOSING demand ends when a fault is recorded on its shutter; a FIRE demand is left in force. -/
def faultEndsDemand (i : Nat) (s : State) : State :=
  match demandOf s i with
  | some d => if d.cls = .fire then s else dropDemand i s
  | none => s

/-- R95: the fault is recorded in place of the one in force, and SHUTTER_FAULT is queued. -/
def recordFault (i : Nat) (cause : CheckResult) (s : State) : State :=
  faultEndsDemand i
    (queueEvent .shutterFault (some i) cause.code (modShutter i (fun x => { x with fault := some cause }) s))

/-- The demand ends and FIRE_CLOSE_IMPOSSIBLE is queued when it was of class FIRE (R79, R82, R87). -/
def endImpossible (i : Nat) (cause : CheckResult) (s : State) : State :=
  match demandOf s i with
  | none => s
  | some d =>
    if d.cls = .fire then queueEvent .fireCloseImpossible (some i) cause.code (setDemand i none s)
    else setDemand i none s

/-- R82: a travel ends with a fault: the drive stops, the fault is recorded and the demand ends. -/
def travelFault (i : Nat) (cause : CheckResult) (s : State) : State :=
  endImpossible i cause (recordFault i cause (stopDrive i s))

/-- R81: the demand ends at its target, and SHUTTER_CLOSED or SHUTTER_OPENED is queued with its class. -/
def endReached (i : Nat) (s : State) : State :=
  match demandOf s i with
  | none => s
  | some d =>
    queueEvent (if d.dir = .open then .shutterOpened else .shutterClosed) (some i) d.cls.code (setDemand i none s)

/-- R85, R86: an obstructed close demand has raised its shutter back to OPEN. -/
def recoveredOpen (i : Nat) (s : State) : State :=
  match demandOf s i, shutterDef s i with
  | some d, some df =>
    let t := queueEvent .shutterOpened (some i) d.cls.code s
    if d.cls = .closing then
      if (shutterAt s i).obstructions ≤ df.retryLimit then
        modShutter i (fun x => { x with retry := some (inMs s (1000 * df.retryDelay)) }) (setStatus i .retryWait t)
      else recordFault i .obstructionRetries (setDemand i none t)
    else setDemand i none t
  | _, _ => s

/-! ### Drives and obstructions (R80, R84 to R88) -/

/-- Obstruction causes EDGE, SILL and STALL by their codes (section 11.5). -/
inductive Obstacle where
  | edge | sill | stall
deriving DecidableEq, Repr

def Obstacle.code : Obstacle → Nat
  | .edge => 0 | .sill => 1 | .stall => 2

/-- R87: the drive of a FIRE demand has stopped at an obstruction: the bridge is held and the fire pause starts. -/
def pauseDrive (i pauseSeconds : Nat) (s : State) : State :=
  let t := modShutter i (fun x => { x with pause := some (inMs s (1000 * pauseSeconds)) }) (setStatus i .paused s)
  match bridgeOf s i with
  | none => t
  | some b =>
    modBridge b (fun x =>
      match x.st with
      | .dwell tm _ tr => { x with st := .dwell tm true tr }
      | _ => x) t

/-- R84 to R87: an obstruction of a lowering shutter. -/
def obstruct (i : Nat) (cause : Obstacle) (s : State) : State :=
  match demandOf s i, shutterDef s i with
  | some d, some df =>
    let n := (shutterAt s i).obstructions + 1
    let t := stopDrive i
      (queueEvent .shutterObstructed (some i) (cause.code + 256 * n)
        (modShutter i (fun x => { x with obstructions := n }) s))
    if d.cls = .fire then
      if n ≤ (if d.single then 0 else df.pauseLimit) then pauseDrive i df.firePause t
      else endImpossible i .obstructionRetries (recordFault i .obstructionRetries t)
    else setStatus i .recovering t
  | _, _ => s

/-- R88: a stall while RAISING ends the demand without a fault. -/
def raisingStall (i : Nat) (s : State) : State :=
  setDemand i none
    (stopDrive i
      (queueEvent .shutterObstructed (some i) (Obstacle.stall.code + 256 * (shutterAt s i).obstructions) s))

/-- A drive starts on the shutter's bridge: DRIVING, the motion state, the travel timer (R80), and an obstruction at once
when it lowers onto an active safety edge or sill sensor; with both active it is the edge's (DESIGN CHOICE, log entry
53). -/
def startDrive (i : Nat) (raise : Bool) (status : DemandStatus) (s : State) : State :=
  match bridgeOf s i, shutterDef s i with
  | some b, some df =>
    let t := modBridge b (fun x => { x with st := .driving raise 0 0 (some (inMs s s.cfg.bridges.grace)) })
      (setStatus i status
        (modShutter i (fun x =>
          { x with
            motion := if raise then .raising else .lowering
            travel := some (inMs s (1000 * df.travel)) }) s))
    if raise then t
    else if active t (edgePoint i) then obstruct i .edge t
    else if (openingOf t i).any (fun o => active t (sillPoint o)) then obstruct i .sill t
    else t
  | _, _ => s

/-- R80: the drive toward the demand's target, omitted when the shutter is there already. -/
def driveTo (i : Nat) (s : State) : State :=
  match demandOf s i with
  | none => s
  | some d =>
    if atTarget s i d.dir then
      match bridgeOf s i with
      | some b => enterDwell b false (endReached i s)
      | none => endReached i s
    else startDrive i (d.dir == .open) .moving s

/-- R83, R85, R86, R108: the dwell of bridge `b` ends. A RECOVERING demand whose shutter stands OPEN has arrived, and one
whose shutter stands elsewhere, CLOSED included, raises (DESIGN CHOICE, log entry 49). The order of the records of this
event is log entry 80's. -/
def dwellEnd (b : Nat) (s : State) : State :=
  match (bridgeAt s b).shutter with
  | none => freeBridge b s
  | some i =>
    match demandOf s i with
    | none => freeBridge b s
    | some d =>
      match d.status with
      | .dwelling =>
        if atTarget s i d.dir then freeBridge b (endReached i s)
        else
          match d.dir with
          | .open => startDrive i true .moving s
          | .test => freeBridge b s
          | .close =>
            match interlockFails s i with
            | some k => holdByLoop i k (freeBridge b s)
            | none => startDrive i false .moving s
      | .recovering =>
        if (shutterAt s i).motion = .open then recoveredOpen i (freeBridge b s)
        else startDrive i true .recovering s
      | .heldByLoop | .waitingBridge | .checking | .moving | .paused | .retryWait => freeBridge b s

/-! ### Placing demands (R74, R75) -/

/-- What became of a demand offered to a shutter (R76). -/
inductive Placed where
  | placed
  | satisfied
  | refused
deriving DecidableEq, Repr

/-- A new demand of the present command. -/
def newDemand (s : State) (dir : DemandDir) (cls : DemandClass) (single : Bool) (status : DemandStatus) : Demand :=
  { dir, cls, status, placedAt := s.time.now, placedSeq := s.time.seq, single }

/-- The new demand stands in force with the status `st` and the obstruction count 0 (R74). R74 says so of close and open
demands, and the model takes a TEST demand like them (DESIGN CHOICE, log entry 50). -/
def putDemand (i : Nat) (dir : DemandDir) (cls : DemandClass) (single : Bool) (st : DemandStatus) (s : State) : State :=
  modShutter i (fun x => { x with demand := some (newDemand s dir cls single st), obstructions := 0 }) s

/-- R75: a new close, open or test demand takes the place of the demand `old`. A close demand on an OPENING shutter takes
a check over only when the check was made for a close demand, or when it passes the interlock (log entry 14). -/
def replaceDemand (i : Nat) (dir : DemandDir) (cls : DemandClass) (single : Bool) (old : Demand) (s : State) : State :=
  match old.status with
  | .heldByLoop | .waitingBridge => offerBridge i (putDemand i dir cls single .waitingBridge s)
  | .retryWait =>
    offerBridge i (putDemand i dir cls single .waitingBridge (modShutter i (fun x => { x with retry := none }) s))
  | .checking =>
    let takeOver := putDemand i dir cls single .checking
      (match bridgeOf s i with
       | some b => setPurpose b (if dir = .test then .test else .preTravel) s
       | none => s)
    if dir = .close ∧ old.dir ≠ .close then
      match interlockFails s i with
      | some k => holdByLoop i k (putDemand i dir cls single .heldByLoop (abandonCheck i s))
      | none => takeOver
    else takeOver
  | .moving =>
    if old.dir = dir then putDemand i dir cls single .moving s
    else putDemand i dir cls single .dwelling (stopDrive i s)
  | .recovering =>
    if dir = .close then
      if cls = .fire then putDemand i dir cls single .dwelling (stopDrive i s)
      else putDemand i dir cls single .recovering s
    else if (shutterAt s i).motion = .raising then putDemand i dir cls single .moving s
    else putDemand i dir cls single .dwelling s
  | .paused => s
  | .dwelling => putDemand i dir cls single .dwelling s

/-- The shutter stands connected in the dwell after a travel, so that a new demand takes the dwell over (R75). While
FIELD_LOST is set no drive may follow a dwell (R114), and the demand is offered a bridge in its place (log entry 15). -/
def inTravelDwell (s : State) (i : Nat) : Bool :=
  !s.field.lost &&
    (match bridgeOf s i with
     | none => false
     | some b =>
       match (bridgeAt s b).st with
       | .dwell _ _ true => true
       | _ => false)

/-- R74: a demand is placed on a defined shutter, unless one of a higher class is in force (R75). -/
def placeDemand (i : Nat) (dir : DemandDir) (cls : DemandClass) (single : Bool) (s : State) : State × Placed :=
  match demandOf s i with
  | some old =>
    if cls.rank < old.cls.rank then (s, .refused)
    else if atTarget s i dir then (dropDemand i s, .satisfied)
    else if old.dir = dir ∧ old.cls = cls then (s, .placed)
    else (replaceDemand i dir cls single old s, .placed)
  | none =>
    if atTarget s i dir then (s, .satisfied)
    else if inTravelDwell s i then (putDemand i dir cls single .dwelling s, .placed)
    else (offerBridge i (putDemand i dir cls single .waitingBridge s), .placed)

/-- R76: a HOST or CLOSING demand offered to a shutter; one with a fault refuses it. -/
def offerDemand (i : Nat) (dir : DemandDir) (cls : DemandClass) (s : State) : State × Placed :=
  if (shutterAt s i).fault.isSome then (s, .refused) else placeDemand i dir cls false s

/-- The three lists of R76: placed or left in force, satisfied, refused. -/
structure PlacedLists where
  placed : List Nat
  satisfied : List Nat
  refused : List Nat
deriving DecidableEq, Repr

/-- R76: the demand is offered to each shutter of a list, which the callers give in ascending id (DESIGN CHOICE, log entry
54). -/
def offerAll (ids : List Nat) (dir : DemandDir) (cls : DemandClass) (s : State) : State × PlacedLists :=
  ids.foldl (fun (r : State × PlacedLists) i =>
    match offerDemand i dir cls r.1 with
    | (t, .placed) => (t, { r.2 with placed := r.2.placed ++ [i] })
    | (t, .satisfied) => (t, { r.2 with satisfied := r.2.satisfied ++ [i] })
    | (t, .refused) => (t, { r.2 with refused := r.2.refused ++ [i] }))
    (s, { placed := [], satisfied := [], refused := [] })

/-- The defined shutters whose group set holds `g`. -/
def groupShutters (s : State) (g : Nat) : List Nat :=
  (definedShutters s).filter (fun i => (shutterDef s i).any (fun d => d.groups.getLsbD g))

/-- The defined shutters on a floor. -/
def floorShutters (s : State) (f : Nat) : List Nat :=
  (definedShutters s).filter (fun i => (shutterDef s i).any (fun d => d.floor == f))

/-! ### The grant queue (R102 to R104) -/

/-- R102: shutter `i` stands before shutter `j` in the grant queue. -/
def queueBefore (s : State) (i j : Nat) : Bool :=
  let key (k : Nat) : Nat × Nat × Nat × Nat :=
    ((if hasClass s k .fire then 0 else 1), ((shutterDef s k).map ShutterDef.priority).getD 0,
      ((demandOf s k).map Demand.placedSeq).getD 0, k)
  let a := key i
  let b := key j
  decide (a.1 < b.1 ∨ a.1 = b.1 ∧ (a.2.1 < b.2.1 ∨ a.2.1 = b.2.1 ∧
    (a.2.2.1 < b.2.2.1 ∨ a.2.2.1 = b.2.2.1 ∧ a.2.2.2 ≤ b.2.2.2)))

/-- R102: the shutters whose demand waits for a bridge, in queue order. -/
def grantQueue (s : State) : List Nat :=
  orderBy (queueBefore s) ((List.range 24).filter (fun i => hasStatus s i .waitingBridge))

/-- R103: the first shutter of the queue that is not still connected in a dwell. -/
def queueHead (s : State) : Option Nat := (grantQueue s).find? (fun i => (bridgeOf s i).isNone)

/-- The lowest-numbered FREE bridge. -/
def lowestFree (s : State) : Option Nat := (List.range 4).find? (fun b => (bridgeAt s b).st == .free)

/-- The bridge that makes a sweep check. -/
def sweepBridge (s : State) : Option Nat :=
  (List.range 4).find? (fun b =>
    match (bridgeAt s b).st with
    | .checking .sweep _ _ => true
    | _ => false)

/-- The shutter is connected to the bridge and a check of it begins at REST (R101, R105). A connection the bridge had is
broken by this. -/
def beginCheck (b i : Nat) (p : Purpose) (s : State) : State :=
  modBridge b (fun x => { x with st := .checking p [] (inMs s 30), shutter := some i }) s

/-- R103: the shutter is granted the bridge. -/
def grant (i b : Nat) (s : State) : State :=
  beginCheck b i (if (demandOf s i).any (fun d => d.dir == .test) then .test else .preTravel)
    (setStatus i .checking s)

/-- R103, R104: the queue is served: each head takes the lowest FREE bridge, and a FIRE head takes the bridge of a sweep
check when none is FREE. No grant is made while FIELD_LOST is set. -/
def serveQueue : Nat → State → State
  | 0, s => s
  | fuel + 1, s =>
    if s.field.lost then s
    else
      match queueHead s with
      | none => s
      | some i =>
        match lowestFree s with
        | some b => serveQueue fuel (grant i b s)
        | none =>
          if hasClass s i .fire then
            match sweepBridge s with
            | some b => serveQueue fuel (grant i b s)
            | none => s
          else s

/-! ### The idle sweep (R110, R111) -/

/-- R111: the shutter may be swept. -/
def sweepEligible (s : State) (i : Nat) : Bool :=
  isDefined s i && ((shutterAt s i).motion == .open || (shutterAt s i).motion == .closed)
    && (demandOf s i).isNone && (shutterAt s i).fault.isNone && (bridgeOf s i).isNone

/-- R110, R111: a due sweep check is started where all its conditions hold. -/
def startSweep (s : State) : State :=
  if s.bridges.sweepDue && !s.fire.latch && !s.field.lost && (grantQueue s).isEmpty && (sweepBridge s).isNone then
    match lowestFree s with
    | none => s
    | some b =>
      let t := { s with bridges := { s.bridges with sweepDue := false } }
      match ((List.range 24).map (fun k => (s.bridges.cursor + k) % 24)).find? (sweepEligible s) with
      | none => t
      | some i => beginCheck b i .sweep { t with bridges := { t.bridges with cursor := (i + 1) % 24 } }
  else s

/-- What follows at the Drive Bridge Unit at the end of every event: grants, then a due sweep (R103, R110). A grant ends
with each of the four bridges or a sweep check's bridge taken, so eight rounds are more than any event needs. -/
def serveBridges (s : State) : State := startSweep (serveQueue 8 s)

/-! ### The shutters under fire (R89 to R93) -/

/-- The electrical faults of R91. -/
def CheckResult.electrical : CheckResult → Bool
  | .shortSupply | .shortGround | .openWinding | .openCircuit | .unclassified => true
  | .normal | .travelTimeout | .obstructionRetries | .limitLost | .limitsBoth => false

/-- R91: a FIRE close demand is offered to a shutter. A CLOSED shutter is satisfied whatever its fault (log entry 16). -/
def offerFire (i : Nat) (s : State) : State :=
  if (shutterAt s i).motion = .closed then (placeDemand i .close .fire false s).1
  else
    match (shutterAt s i).fault with
    | none => (placeDemand i .close .fire false s).1
    | some f =>
      if f.electrical then queueEvent .fireCloseImpossible (some i) f.code s
      else (placeDemand i .close .fire true s).1

/-- The shutter's fire zone set meets the alarmed set. -/
def fireMatch (s : State) (i : Nat) : Bool := (shutterDef s i).any (fun d => Set8.meets d.zones s.fire.alarmed)

/-- R90: the shutter matches, is not CLOSED and has no FIRE demand, with the latch set. -/
def wantsFire (s : State) (i : Nat) : Bool :=
  s.fire.latch && fireMatch s i && (shutterAt s i).motion != .closed && !hasClass s i .fire

/-- R89: the latch is set: FIRE demands are offered, then every other demand is cancelled, each step in ascending shutter
id (DESIGN CHOICE, log entry 54). -/
def shuttersLatchSet (s : State) : State :=
  let t := forEach ((definedShutters s).filter (fireMatch s)) offerFire s
  forEach ((definedShutters t).filter (fun i => (demandOf t i).any (fun d => d.cls != .fire))) cancelDemand t

/-- R90: a further zone alarm, the shutters in ascending id (DESIGN CHOICE, log entry 54). -/
def shuttersFurtherAlarm (s : State) : State :=
  forEach ((definedShutters s).filter (fun i => fireMatch s i && !hasClass s i .fire)) offerFire s

/-- R93: the latch is cleared: every FIRE demand is cancelled, in ascending shutter id (DESIGN CHOICE, log entry 54). -/
def shuttersLatchCleared (s : State) : State :=
  forEach ((definedShutters s).filter (fun i => hasClass s i .fire)) cancelDemand s

/-! ### Checks (R105, R106, R79, R112, R113) -/

/-- R106: six levels, in the order REST, LIFT_A, LIFT_B, are classified. -/
def classify : List (Bool × Bool) → CheckResult
  | [(false, false), (true, true), (true, true)] => .normal
  | [(false, false), (true, false), (false, true)] => .openWinding
  | [(true, true), (true, true), (true, true)] => .shortSupply
  | [(false, false), (false, false), (false, false)] => .shortGround
  | _ => .unclassified

/-- R112: the suspicion record after a completed check, and the withdrawal it makes. -/
def suspicion (held : Option Nat) (i : Nat) (r : CheckResult) : Option Nat × Option (Nat × Nat) :=
  match r with
  | .normal => (none, none)
  | .shortSupply | .shortGround | .unclassified =>
    match held with
    | none => (some i, none)
    | some j => if j = i then (some j, none) else (none, some (j, i))
  | _ => (held, none)

/-- R79: what the demand of a pre-travel check does with the result. -/
def preTravelResult (b i : Nat) (r : CheckResult) (s : State) : State :=
  match demandOf s i with
  | none => enterDwell b false s
  | some d =>
    match r with
    | .normal => driveTo i s
    | .shortSupply | .shortGround => enterDwell b false (endImpossible i r s)
    | _ => if d.cls = .fire then driveTo i s else enterDwell b false (setDemand i none s)

/-- R106: a check of shutter `i` on bridge `b` with purpose `p` is complete. CHECK_RESULT stands before what follows from it
(log entry 80). -/
def checkComplete (b i : Nat) (p : Purpose) (levels : List (Bool × Bool)) (s : State) : State :=
  let r := classify levels
  let sus := suspicion (bridgeAt s b).suspect i r
  let t := modBridge b (fun x => { x with
      suspect := sus.1, withdrawn := if sus.2.isSome then sus.2 else x.withdrawn })
    (modShutter i (fun x => { x with lastCheck := some (r, clockTime s) }) s)
  let u :=
    if r = .normal then t
    else queueEvent .checkResult (some i) (r.code + 256 * b + 1024 * p.code)
      (modShutter i (fun x => { x with fault := some r }) t)
  match p with
  | .preTravel => preTravelResult b i r u
  | .test => freeBridge b (setDemand i none u)
  | .sweep => freeBridge b (if r = .normal then u else faultEndsDemand i u)

/-- R105: a setting of the check on bridge `b` ends with the levels `a` and `c` at terminals A and B. -/
def settingEnd (b : Nat) (a c : Bool) (s : State) : State :=
  match (bridgeAt s b).st, (bridgeAt s b).shutter with
  | .checking p levels due, some i =>
    let t := advanceTo due s
    let all := levels ++ [(a, c)]
    if all.length < 3 then
      modBridge b (fun x => { x with st := .checking p all (inMs t 30) }) t
    else checkComplete b i p all t
  | _, _ => s

/-! ### Current sensing (R107) -/

/-- R107: the reading `v` of bridge `b`'s current. -/
def currentReading (b v : Nat) (s : State) : State :=
  let t := modBridge b (fun x => { x with latest := some v }) s
  match (bridgeAt s b).st, (bridgeAt s b).shutter with
  | .driving raise stallRun openRun grace, some i =>
    let runs (st op : Nat) : State := modBridge b (fun x => { x with st := .driving raise st op grace }) t
    if s.cfg.bridges.stall ≤ v then
      if 2 ≤ stallRun + 1 then
        if raise then raisingStall i (runs (stallRun + 1) 0) else obstruct i .stall (runs (stallRun + 1) 0)
      else runs (stallRun + 1) 0
    else if v < s.cfg.bridges.openThr then
      if grace.isSome then runs 0 0
      else if 3 ≤ openRun + 1 then travelFault i .openCircuit (runs 0 (openRun + 1))
      else runs 0 (openRun + 1)
    else runs 0 0
  | _, _ => t

/-! ### Loss of the field chain (R97, R114) -/

/-- R97: what the demand of a connected shutter becomes when FIELD_LOST is set, after its drive or check has stopped. A
demand that is held by the loop stays held. -/
def reofferAfterLoss (i : Nat) (s : State) : State :=
  match demandOf s i with
  | none => s
  | some d =>
    if d.dir = .test ∨ (d.cls = .host ∧ d.status = .recovering) then setDemand i none s
    else if d.status = .heldByLoop ∨ d.status = .waitingBridge then s
    else offerBridge i (setStatus i .waitingBridge
      (modShutter i (fun x => { x with retry := none, pause := none }) s))

/-- R97, R114: FIELD_LOST is set, for bridge `b`: its drive stops, its check is abandoned, its hold ends, and the demand
of its shutter is ended or offered a bridge again. -/
def bridgeFieldLost (b : Nat) (s : State) : State :=
  match (bridgeAt s b).shutter with
  | none => s
  | some i =>
    match (bridgeAt s b).st with
    | .driving _ _ _ _ => reofferAfterLoss i (stopDrive i s)
    | .checking .sweep _ _ => freeBridge b s
    | .checking _ _ _ => reofferAfterLoss i (enterDwell b false s)
    | .dwell _ _ _ => endHold i (reofferAfterLoss i s)
    | .free | .outOfService => s

/-- R97, R114: FIELD_LOST is set. -/
def shuttersFieldLost (s : State) : State := forEach (List.range 4) bridgeFieldLost s

end Sys2Proof.Machine
end

