-- ==== Sys2Proof/Machine/Loop.lean ====
section
/-! DEFINITION. The Loop Controller: the operations of chapters 1 and 2 that its commands share. -/

namespace Sys2Proof.Machine

/-- The state with the loop record changed by `f`. -/
def modLoop (f : Loop → Loop) (s : State) : State := { s with loop := f s.loop }

/-! ### State changes (R25, R26, R28) -/

/-- The loop enters the state `st`. The window timer stops when this opens the contactor; leaving STOPPED_FOUL clears the
creep-exhausted flag and the creep delay (R47); and the Shutter Controller re-examines its demands (R26, R78). -/
def enterState (st : LoopState) (s : State) : State :=
  let t := modLoop (fun x => { x with
    st
    exhausted := if st = .stoppedFoul then x.exhausted else false
    creepDelay := if st = .stoppedFoul then x.creepDelay else none }) s
  reexamine (modLoop (fun x => { x with window := if contactorClosed t then x.window else none }) t)

/-- R29, R30: a contactor closes: the closing pitch count is 0 and the window timer starts with the first-pulse limit. -/
def closeContactor (limit : Nat) (s : State) : State :=
  modLoop (fun x => { x with closing := 0, window := some (inMs s limit) }) s

/-! ### Faults (R8, R12, R49, R50) -/

/-- R18: a snapshot of a car or NO_CAR is no longer known once the reference is lost. -/
def Recogniser.loseReference : Recogniser → Recogniser
  | .recording es (.car _) => .recording es .unreferenced
  | .recording es .noCar => .recording es .unreferenced
  | r => r

/-- R8: the reference becomes NONE. -/
def loseReference (s : State) : State :=
  modLoop (fun x => { x with
    refValid := false
    cars := x.cars.map (fun _ => Occ.unknown)
    watches := Tab.fill 16 .idle
    recognisers := x.recognisers.map Recogniser.loseReference }) s

/-- R50: a loop fault takes the loop to FAULT_STOP, in every state but UNCONFIGURED and FAULT_STOP. -/
def loopFault (cause : LoopCause) (subject : Option Nat) (s : State) : State :=
  if s.loop.st = .unconfigured ∨ s.loop.st = .faultStop then s
  else
    enterState .faultStop
      (queueEvent .loopFault subject cause.code
        (modLoop (fun x => { x with
          fault := some { cause, subject }
          plan := none
          creepPlan := none
          drain := none
          drainTimer := none
          refStop := .none
          fireDrainPending := false
          creepDelay := none }) (loseReference s)))

/-! ### Stops (R43 to R48) -/

/-- Some sill sensor of the defined openings is active. -/
def sillActive (s : State) : Bool :=
  (List.range 16).any (fun o => (s.cfg.geom.openings.get o).isSome && active s (sillPoint o))

/-- R45: the lowest-numbered opening that is computed occupied or has its sill sensor active. -/
def foulOpening (s : State) : Option Nat :=
  (List.range 16).find? (fun o => (s.cfg.geom.openings.get o).isSome &&
    ((occupantOf s o).isSome || active s (sillPoint o)))

/-- R45: how far `c` has come past the target, in −128 to 127. -/
def stopError (c target length : Nat) : Int :=
  let e := circSub c target length
  let x : Int := if 2 * e > length then (e : Int) - length else e
  max (-128) (min 127 x)

/-- R47: entry to STOPPED_FOUL: the creep delay starts, or the creep attempts are exhausted. -/
def enterFoul (s : State) : State :=
  if s.loop.attempts < s.cfg.timing.creepLimit then
    enterState .stoppedFoul
      (modLoop (fun x => { x with exhausted := false, creepDelay := some (inMs s (1000 * s.cfg.timing.creepDelay)) }) s)
  else
    enterState .stoppedFoul
      (queueEvent .creepExhausted none s.loop.attempts
        (modLoop (fun x => { x with exhausted := true, creepDelay := none }) s))

/-- R45: the stop is judged at standstill. -/
def stopVerdict (s : State) : State :=
  let g := s.cfg.geom
  let target := match s.loop.plan with
    | some p => some p.target
    | none => s.loop.creepPlan.map CreepPlan.target
  let err := target.map (fun t => stopError s.loop.c t g.length)
  let t := modLoop (fun x => { x with
    lastError := err
    attempts := if x.creepPlan.isSome then x.attempts + 1 else x.attempts
    plan := none
    creepPlan := none }) s
  if !g.forbidden (phase s) && !sillActive s then
    enterState .parked (queueEvent .loopParked none (stopErrorDetail err) t)
  else
    enterFoul (queueEvent .loopFoul (foulOpening s) (stopErrorDetail err) t)

/-- R44, R45: both contactors open and the brake is applied; the stop is judged at once when standstill is already
confirmed. -/
def enterBraking (s : State) : State :=
  let t := enterState .braking s
  if t.loop.standstill then stopVerdict t else t

/-- R29: the pitch interval the stop plan uses. -/
def planInterval (s : State) : Nat :=
  let nominal := clamp s.cfg.timing.tMin s.cfg.timing.tMax s.cfg.timing.tNom
  if s.loop.closing = 2 then s.loop.interval.getD nominal else nominal

/-- The distance from phase `p` to the target phase `t`, raised by whole pitches until it is at least `b`. -/
def distanceAtLeast (p t b : Nat) : Nat :=
  let d := circSub t p 256
  if d < b then d + 256 * ceilDiv (b - d) 256 else d

/-- The nearest target phase at least `b` counts ahead of phase `p`, with its distance. -/
def nearestTarget (g : Geometry) (p b : Nat) : Option (Nat × Nat) :=
  g.clearList.foldl (fun best t =>
    let d := distanceAtLeast p t b
    match best with
    | none => some (t, d)
    | some (t0, d0) => if d < d0 then some (t, d) else some (t0, d0)) none

/-- R44: the remaining distance to a target position. -/
def remainingTo (s : State) (target : Nat) : Int :=
  let len := s.cfg.geom.length
  let r := circSub target s.loop.c len
  if r > len - 256 then (r : Int) - len else r

/-- R44: the RUN contactor opens once the remaining distance is at most the braking distance. -/
def checkCommand (s : State) : State :=
  match s.loop.st, s.loop.plan with
  | .stopping, some p => if remainingTo s p.target ≤ p.braking then enterBraking s else s
  | _, _ => s

/-- R48: the CREEP contactor opens once the remaining distance is at most the creep stop distance. -/
def checkCreep (s : State) : State :=
  match s.loop.st, s.loop.creepPlan with
  | .creeping, some p => if remainingTo s p.target ≤ s.cfg.timing.creepStop then enterBraking s else s
  | _, _ => s

/-- R43: entry to STOPPING with its stop plan. The drain record is discarded (R39). -/
def enterStopping (s : State) : State :=
  let v := 256000 / planInterval s
  let raw := ceilDiv (v * v) (2 * s.cfg.timing.decel)
  let b := min raw 1023
  let t := if 1023 < raw then queueEvent .stopClamped none raw s else s
  let plan := (nearestTarget s.cfg.geom (phase s) b).map (fun p =>
    { speed := v, braking := b, targetPhase := p.1, target := (s.loop.c + p.2) % s.cfg.geom.length,
      command := p.2 - b : StopPlan })
  checkCommand (enterState .stopping (modLoop (fun x => { x with
    plan, drain := none, drainTimer := none, refStop := .none, fireDrainPending := false }) t))

/-- R48: a creep begins. -/
def beginCreep (s : State) : State :=
  match nearestTarget s.cfg.geom (phase s) s.cfg.timing.creepStop with
  | none => s
  | some (t, d) =>
    let u := modLoop (fun x => { x with
      exhausted := false
      creepDelay := none
      plan := none
      creepPlan := some { targetPhase := t, target := (s.loop.c + d) % s.cfg.geom.length, distance := d } }) s
    if d = s.cfg.timing.creepStop then enterBraking u
    else enterState .creeping (closeContactor s.cfg.timing.tcMax u)

/-! ### The drain (R39 to R42) -/

/-- The timeout of a drain mode, in milliseconds. -/
def drainTimeout (s : State) (fire : Bool) : Nat :=
  1000 * (if fire then s.cfg.timing.drainFire else s.cfg.timing.drainNormal)

/-- Every car is at 0. -/
def allEmpty (s : State) : Bool := s.loop.cars.all (fun o => o == .count 0)

/-- R42: the cars whose occupancy is not 0. -/
def carsNotEmpty (s : State) : Nat := (s.loop.cars.filter (fun o => o != .count 0)).length

/-- R41: the drain completes, with the detail of DRAIN_DONE. -/
def completeDrain (detail : Nat) (s : State) : State :=
  match s.loop.drain with
  | none => s
  | some d =>
    let t := queueEvent .drainDone none detail
      (modLoop (fun x => { x with drain := some { d with drained := true }, drainTimer := none }) s)
    if d.stopPending then enterStopping t else t

/-- R41: the drain completes by occupancy when every car is at 0. -/
def checkEmpty (s : State) : State :=
  match s.loop.st, s.loop.drain with
  | .draining, some d => if !d.drained && allEmpty s then completeDrain 0 s else s
  | _, _ => s

/-- R39: entry to DRAINING. A fire drain timer that runs from REFERENCING is kept. -/
def enterDraining (fire stopPending : Bool) (s : State) : State :=
  let timer := if fire && s.loop.fireDrainPending then s.loop.drainTimer else some (inMs s (drainTimeout s fire))
  checkEmpty (enterState .draining (modLoop (fun x => { x with
    drain := some { fire, stopPending, drained := false, travel := 0, revs := 0 }
    drainTimer := timer
    refStop := .none
    fireDrainPending := false }) s))

/-- Entry to RUNNING: the drain record and the stop plan are discarded (R32). -/
def enterRunning (s : State) : State :=
  enterState .running (modLoop (fun x => { x with
    drain := none, drainTimer := none, plan := none, refStop := .none, fireDrainPending := false }) s)

/-- R40: a late boarder in DRAINING. -/
def lateBoarder (s : State) : State :=
  match s.loop.st, s.loop.drain with
  | .draining, some d =>
    modLoop (fun x => { x with
      drain := some { d with travel := 0, revs := 0, drained := false }
      drainTimer := if d.drained || x.drainTimer.isNone then some (inMs s (drainTimeout s d.fire)) else x.drainTimer }) s
  | _, _ => s

/-- R40, R41: a count pulse in DRAINING with the drained flag clear. -/
def drainPulse (s : State) : State :=
  match s.loop.st, s.loop.drain with
  | .draining, some d =>
    if d.drained then s
    else if d.travel + 1 < s.cfg.geom.length then
      modLoop (fun x => { x with drain := some { d with travel := d.travel + 1 } }) s
    else
      let t := modLoop (fun x => { x with drain := some { d with travel := 0, revs := d.revs + 1 } }) s
      if s.cfg.timing.rDrain ≤ d.revs + 1 then
        completeDrain 1 (modLoop (fun x => { x with
          cars := x.cars.map (fun o => if o = .unknown then .count 0 else o) }) t)
      else t
  | _, _ => s

/-! ### Requests that the host and the Closing Scheduler place (R33, R34, R36) -/

/-- R33: a drain request; the answer is whether it is taken (DONE) or refused (WRONG_STATE). -/
def takeDrain (s : State) : State × Bool :=
  match s.loop.st with
  | .running => (enterDraining false false s, true)
  | .referencing | .starting | .draining | .stopping | .braking | .creeping => (s, true)
  | .unconfigured | .unreferenced | .parked | .stoppedFoul | .faultStop => (s, false)

/-- R34: a stop request with force 0 or 1, which every state takes. -/
def takeStop (force : Bool) (s : State) : State :=
  match s.loop.st with
  | .running => if force then enterStopping s else enterDraining false true s
  | .draining =>
    if force then enterStopping s
    else
      match s.loop.drain with
      | none => s
      | some d =>
        let t := modLoop (fun x => { x with drain := some { d with stopPending := true } }) s
        if d.drained then enterStopping t else t
  | .referencing =>
    if force then modLoop (fun x => { x with refStop := .stop }) s
    else modLoop (fun x => { x with refStop := if x.refStop = .stop then .stop else .drain }) s
  | .starting => enterBraking (modLoop (fun x => { x with plan := none, creepPlan := none }) s)
  | .stopping | .braking | .creeping | .parked | .stoppedFoul | .unreferenced | .unconfigured | .faultStop => s

/-! ### The loop under fire (R52) -/

/-- R52: the loop's reaction to the setting of the fire latch. -/
def loopLatchSet (s : State) : State :=
  match s.loop.st with
  | .running | .starting => enterDraining true true s
  | .draining =>
    match s.loop.drain with
    | none => s
    | some d =>
      let t := modLoop (fun x => { x with
        drain := some { d with fire := true, stopPending := true }
        drainTimer := some (inMs s (drainTimeout s true)) }) s
      if d.drained then enterStopping t else t
  | .referencing =>
    modLoop (fun x => { x with
      refStop := if x.refStop = .stop then .stop else .drain
      fireDrainPending := true
      drainTimer := some (inMs s (drainTimeout s true)) }) s
  | .stopping | .braking | .creeping | .parked | .stoppedFoul | .unreferenced | .unconfigured | .faultStop => s

/-! ### Sill watches, crossings (R14 to R19) -/

/-- R14: a count pulse at the present phase advances the watch of opening `o`. -/
def advanceWatch (o : Nat) (x : Opening) (s : State) : State :=
  if s.loop.refValid then
    let w := s.loop.watches.get o
    let tol := s.cfg.timing.pTol
    if phase s = circSub x.entryPhase tol 256 then
      modLoop (fun l => { l with watches := l.watches.put o .armed }) s
    else if phase s = (x.entryPhase + tol + 1) % 256 then
      match w with
      | .armed => loopFault .sillMismatch (some o) s
      | .met => modLoop (fun l => { l with watches := l.watches.put o .idle }) s
      | .idle => s
    else s
  else s

/-- R14, R15: an active edge of the sill sensor of a watched opening. -/
def sillEdge (o : Nat) (x : Opening) (s : State) : State :=
  if s.loop.refValid then
    if s.loop.st = .parked then loopFault .sillMismatch (some o) s
    else if phaseDistance (phase s) x.entryPhase ≤ s.cfg.timing.pTol then
      if s.loop.watches.get o = .armed then modLoop (fun l => { l with watches := l.watches.put o .met }) s else s
    else loopFault .sillMismatch (some o) s
  else s

/-- R46: a PARKED loop whose phase has come to lie in F is STOPPED_FOUL. Where one pulse enters the forbidden intervals of
several openings, LOOP_FOUL names the lowest-numbered (DESIGN CHOICE, log entry 46). -/
def checkDrift (s : State) : State :=
  if s.loop.st = .parked && s.cfg.geom.forbidden (phase s) then
    let entered := (List.range 16).find? (fun o =>
      (s.cfg.geom.openings.get o).any (fun x => x.forbids (phase s)))
    enterFoul (queueEvent .loopFoul entered (stopErrorDetail none) s)
  else s

/-- R19: an ENTER or EXIT is charged to car `k`. -/
def chargeCar (enter : Bool) (k o : Nat) (s : State) : State :=
  let setOcc (v : Occ) (t : State) : State := modLoop (fun l => { l with cars := l.cars.set k v }) t
  if enter then
    let t := match s.loop.cars.getD k .unknown with
      | .unknown => s
      | .count n => if n < 2 then setOcc (.count (n + 1)) s else queueEvent .overload (some k) o s
    lateBoarder t
  else
    match s.loop.cars.getD k .unknown with
    | .unknown => s
    | .count 0 => s
    | .count (n + 1) => checkEmpty (setOcc (.count n) s)

/-- R18: a crossing of opening `o` is charged by its snapshot. -/
def chargeCrossing (enter : Bool) (o : Nat) (snap : Snapshot) (s : State) : State :=
  match snap with
  | .car k => chargeCar enter k o s
  | .noCar => loopFault .shaftCrossing (some o) s
  | .notTaken | .unreferenced => queueEvent .crossingUnattributed (some o) (if enter then 1 else 2) s

/-- R18: the snapshot of opening `o` now. -/
def takeSnapshot (s : State) (o : Nat) : Snapshot :=
  if s.loop.refValid then
    match occupantOf s o with
    | some k => .car k
    | none => .noCar
  else .unreferenced

/-- R17: an ENTER is outer break, inner break, outer restore, inner restore; an EXIT the same with the beams exchanged. -/
def crossingOf : List BeamChange → Option Bool
  | [⟨false, true⟩, ⟨true, true⟩, ⟨false, false⟩, ⟨true, false⟩] => some true
  | [⟨true, true⟩, ⟨false, true⟩, ⟨true, false⟩, ⟨false, false⟩] => some false
  | _ => none

def setRecogniser (o : Nat) (r : Recogniser) (s : State) : State :=
  modLoop (fun l => { l with recognisers := l.recognisers.put o r }) s

/-- R17: one beam of opening `o` changes its accepted value; `clear` says that both beams are CLEAR after it. -/
def beamChange (o : Nat) (ch : BeamChange) (clear : Bool) (s : State) : State :=
  let snapAfter (old : Snapshot) : Snapshot :=
    if ch.inner && ch.broken && old == .notTaken then takeSnapshot s o else old
  match s.loop.recognisers.get o with
  | .waitClear => s
  | .rest => if ch.broken then setRecogniser o (.recording [ch] (snapAfter .notTaken)) s else s
  | .recording es snap =>
    if 4 ≤ es.length then setRecogniser o .waitClear s
    else
      let es' := es ++ [ch]
      if clear then
        let t := setRecogniser o .rest s
        match crossingOf es' with
        | some enter => chargeCrossing enter o (snapAfter snap) t
        | none => t
      else setRecogniser o (.recording es' (snapAfter snap)) s

/-! ### Geometry changes (R3) -/

/-- R3: DEFINE LOOP and DEFINE OPENING are taken. -/
def geometryGate (s : State) : Bool :=
  match s.loop.st with
  | .unconfigured | .unreferenced | .parked | .stoppedFoul => true
  | .faultStop => s.loop.standstill
  | .referencing | .starting | .running | .draining | .stopping | .braking | .creeping => false

/-- R3: the geometry becomes `g`, with all that a geometry change does. -/
def geometryChange (g : Geometry) (s : State) : State :=
  let t := { s with cfg := { s.cfg with geom := g } }
  enterState (if g.valid then .unreferenced else .unconfigured)
    (modLoop (fun x => { x with
      c := 0
      refValid := false
      cars := List.replicate g.cars Occ.unknown
      recognisers := Tab.fill 16 .waitClear
      watches := Tab.fill 16 .idle
      fault := none
      lockout := Tab.make 8 (fun l => decide (l < g.landings) && x.lockout.get l) }) t)

end Sys2Proof.Machine
end

