-- ==== Sys2Proof/Machine/ShutterInputs.lean ====
section
/-! DEFINITION. What the Shutter Controller does with the field inputs it is handed: limits (R71 to R73, R81, R82),
safety edges and sill sensors (R84). -/

namespace Sys2Proof.Machine

/-- R73: an OPENING shutter has left OPEN with a contactor closed: the loop takes SHUTTER_INTRUSION. R73 leaves open which
block takes a limit event first; the callers record the shutter's own fault before this (DESIGN CHOICE, log entry 65). -/
def checkIntrusion (i : Nat) (before : Motion) (s : State) : State :=
  if before = .open ∧ (shutterAt s i).motion ≠ .open ∧ (openingOf s i).isSome ∧ contactorClosed s then
    loopFault .shutterIntrusion (some i) s
  else s

/-- R72: the further effect of a limit change of a shutter that is not driven. -/
def limitFault (i : Nat) (before after : Motion) (s : State) : State :=
  if after = before then s
  else if after = .stoppedMid then recordFault i .limitLost s
  else if before ≠ .stoppedMid then recordFault i .limitLost s
  else s

/-- R72, R81: an undriven shutter that has come to the target of its PAUSED FIRE demand ends it, and its held bridge
finishes its dwell. -/
def pausedAtTarget (i : Nat) (s : State) : State :=
  if hasStatus s i .paused && (shutterAt s i).motion == .closed then
    endHold i (modShutter i (fun x => { x with pause := none }) (endReached i s))
  else s

/-- R90: a shutter that has left CLOSED while the latch is set is offered a FIRE demand again. -/
def leftClosed (i : Nat) (before : Motion) (s : State) : State :=
  if before = .closed && wantsFire s i then offerFire i s else s

/-- R71, R72, R73: the limits of a shutter that is not driven have changed. The two limits both active are LIMITS_BOTH,
whatever the motion state was. The shutter's fault is recorded before the loop's, so that SHUTTER_FAULT stands before
LOOP_FAULT (DESIGN CHOICE, log entry 65). -/
def limitsAtRest (i : Nat) (s : State) : State :=
  let before := (shutterAt s i).motion
  let after := limitsMotion s i
  let t := modShutter i (fun x => { x with motion := after }) s
  let u := checkIntrusion i before
    (if bothLimits s i then recordFault i .limitsBoth t else limitFault i before after t)
  leftClosed i before (pausedAtTarget i u)

/-- R71: the limits of a shutter have their first accepted values; the shutter's fault before the loop's (DESIGN CHOICE, log
entry 65). -/
def limitsFirst (i : Nat) (s : State) : State :=
  if (acceptedAt s (topLimitPoint i)).isSome && (acceptedAt s (bottomLimitPoint i)).isSome then
    let before := (shutterAt s i).motion
    let t := modShutter i (fun x => { x with motion := limitsMotion s i }) s
    checkIntrusion i before (if bothLimits s i then recordFault i .limitsBoth t else t)
  else s

/-- R81, R85, R86: the target limit of the drive becomes active. -/
def arrive (i : Nat) (s : State) : State :=
  let t := stopDrive i s
  if hasStatus s i .recovering then recoveredOpen i t else endReached i t

/-- R81, R82: limits of a driven shutter have changed; `topUp` and `bottomUp` say which became active. -/
def limitsDriven (i : Nat) (topUp bottomUp : Bool) (s : State) : State :=
  if (topUp || bottomUp) && bothLimits s i then travelFault i .limitsBoth s
  else if (shutterAt s i).motion = .lowering then (if bottomUp then arrive i s else s)
  else if topUp then arrive i s
  else s

/-- R84: the safety edge of a shutter becomes active. -/
def edgeActive (i : Nat) (s : State) : State :=
  if (shutterAt s i).motion = .lowering then obstruct i .edge s else s

/-- R84: the sill sensor of opening `o` becomes active: an obstruction of every lowering shutter across it. -/
def sillObstructs (o : Nat) (s : State) : State :=
  forEach ((definedShutters s).filter (fun i => openingOf s i == some o)) (fun i t =>
    if (shutterAt t i).motion = .lowering then obstruct i .sill t else t) s

end Sys2Proof.Machine
end

