-- ==== Sys2Proof/Machine/Bells.lean ====
section
/-! DEFINITION. The Bell Controller: the operations of chapter 6 that its commands share. -/

namespace Sys2Proof.Machine

def codeDef (s : State) (c : Nat) : Option CodeDef := s.cfg.codes.get c

def stationDef (s : State) (n : Nat) : Option StationDef := s.cfg.stations.get n

/-- The defined stations, ascending. -/
def definedStations (s : State) : List Nat := (List.range 48).filter (fun n => (stationDef s n).isSome)

/-! ### Station lamps (R119) -/

def modLamp (n : Nat) (f : Lamp → Lamp) (s : State) : State :=
  { s with bells := { s.bells with lamps := s.bells.lamps.put n (f (s.bells.lamps.get n)) } }

/-- The steady state of a station's lamp becomes `st`; a flash goes on (R119). -/
def setLamp (n : Nat) (st : LampState) (s : State) : State := modLamp n (fun x => { x with steady := st }) s

/-- The lamp of a call's origin becomes `st`, where the origin is a station. -/
def setOriginLamp (o : Origin) (st : LampState) (s : State) : State :=
  match o with
  | .station n => setLamp n st s
  | .link => s

/-- R119: a refused press flashes the lamp for 3 s. -/
def flashLamp (n : Nat) (s : State) : State := modLamp n (fun x => { x with flash := some (inMs s 3000) }) s

/-! ### Strokes (R123) -/

/-- A stroke begins on the line: the striker is on for the on-time in force. -/
def strike (l : Nat) (s : State) : State :=
  modLine l (fun x => { x with striker := some (inMs s s.cfg.bells.onTime) }) s

/-- The stroke a line state begins: a code stroke sets the phase ON; a closing stroke starts its second (R131), a fire
stroke the fire period (R133). -/
def beginStroke (l : Nat) (s : State) : State :=
  let t := strike l s
  match (lineAt s l).st with
  | .call => modLine l (fun x => { x with on := true, timer := none }) t
  | .strokes => modLine l (fun x => { x with timer := some (inMs s 1000) }) t
  | .fireRinging => modLine l (fun x => { x with timer := some (inMs s s.cfg.bells.firePeriod) }) t
  | .idle | .gap | .silenced => s

/-- What the line's present state begins: a stroke in CALL, STROKES and FIRE_RINGING, the code gap in GAP. -/
def beginState (l : Nat) (s : State) : State :=
  match (lineAt s l).st with
  | .call | .strokes | .fireRinging => beginStroke l s
  | .gap => modLine l (fun x => { x with timer := some (inMs s s.cfg.bells.codeGap) }) s
  | .idle | .silenced => s

/-- R123: the line enters the state `st`. What that state begins at once waits for the end of an on-time in progress; the
phase is OFF until then (DESIGN CHOICE, log entry 68). In STROKES the position stays at group 0, stroke 0, phase OFF (R131
gives it no values: DESIGN CHOICE, log entry 69). -/
def enterLine (l : Nat) (st : LineState) (s : State) : State :=
  let t := modLine l (fun x => { x with
    st, timer := none, pattern := if st = .call then x.pattern else [], group := 0, stroke := 0, on := false,
    left := if st = .strokes then x.left else 0 }) s
  if (lineAt s l).striker.isSome then
    modLine l (fun x => { x with deferred := true }) t
  else beginState l (modLine l (fun x => { x with deferred := false }) t)

/-- R131: the line takes `n` closing strokes. -/
def takeStrokes (l n : Nat) (s : State) : State :=
  enterLine l .strokes (modLine l (fun x => { x with left := n, pending := none }) s)

/-! ### Selection (R124) -/

/-- R124: the call may be selected. -/
def Call.eligible (c : Call) : Bool :=
  match c.st with
  | .waiting => true
  | .awaitingRepeat => c.dueTaken
  | .sounding _ => false

/-- R124: call `a` is taken before call `b`: higher urgency, then earlier raised, then stations in ascending number
before LINK, then LINK calls in ascending code. -/
def callBefore (a b : Call) : Bool :=
  decide (b.urgency < a.urgency ∨ b.urgency = a.urgency ∧ (a.raisedSeq < b.raisedSeq ∨ a.raisedSeq = b.raisedSeq ∧
    (originCode a.origin < originCode b.origin ∨ originCode a.origin = originCode b.origin ∧ a.code ≤ b.code)))

/-- The eligible call that stands first. -/
def firstEligible (q : List Call) : Option Call := (orderBy callBefore (q.filter Call.eligible)).head?

/-- The two calls have the same origin and code; a queue never holds two such (R121). -/
def sameCall (a b : Call) : Bool := a.origin == b.origin && a.code == b.code

/-- The queue with each call equal to `c` changed by `f`. -/
def mapCall (c : Call) (f : Call → Call) (q : List Call) : List Call := q.map (fun x => if sameCall x c then f x else x)

/-- R124: the call becomes SOUNDING and the line enters CALL with the code's groups as its pattern. -/
def soundCall (l : Nat) (c : Call) (s : State) : State :=
  enterLine l .call (modLine l (fun x => { x with
    queue := mapCall c (fun y => { y with st := .sounding (y.st == .awaitingRepeat) }) x.queue
    pattern := ((codeDef s c.code).map CodeDef.groups).getD [] }) s)

/-- R124: an IDLE line selects what to sound, pending strokes first. -/
def selectLine (l : Nat) (s : State) : State :=
  if (lineAt s l).st = .idle then
    match (lineAt s l).pending with
    | some n => takeStrokes l n s
    | none =>
      match firstEligible (lineAt s l).queue with
      | some c => soundCall l c s
      | none => s
  else s

/-- R125, R130: the line enters GAP, where pending strokes are taken at once. -/
def enterGap (l : Nat) (s : State) : State :=
  match (lineAt s l).pending with
  | some n => takeStrokes l n s
  | none => enterLine l .gap s

/-! ### Calls (R121, R126, R129) -/

/-- What became of a press or a ring. -/
inductive RingResult where
  | created
  | raised
  | refused
deriving DecidableEq, Repr

/-- R121: a press or a ring with the origin `o` and the code `c` on line `l`. -/
def ring (l : Nat) (o : Origin) (c : Nat) (s : State) : State × RingResult :=
  let q := (lineAt s l).queue
  match q.find? (fun x => x.origin == o && x.code == c) with
  | some x =>
    (modLine l (fun r => { r with queue := mapCall x (fun y => { y with urgency := min 3 (y.urgency + 1) }) q }) s,
      .raised)
  | none =>
    if q.length < 8 then
      let call : Call :=
        { origin := o, code := c, urgency := ((codeDef s c).map CodeDef.urgency).getD 0, st := .waiting, repeats := 0,
          due := none, dueTaken := false, raisedAt := s.time.now, raisedSeq := s.time.seq }
      (selectLine l (setOriginLamp o .pending (modLine l (fun r => { r with queue := q ++ [call] }) s)), .created)
    else
      let t := queueEvent .callRefused (some l) (originCode o + 256 * c) s
      (match o with
       | .station n => flashLamp n t
       | .link => t, .refused)

/-- R129: the SOUNDING call of the line has been removed: the sounding stops. -/
def soundingRemoved (l : Nat) (s : State) : State := enterGap l s

/-- R127, R128, R129: the calls of line `l` that `p` names are removed; each station origin's lamp becomes OFF. The
answer gives how many there were. -/
def removeCalls (l : Nat) (p : Call → Bool) (s : State) : State × Nat :=
  let gone := (lineAt s l).queue.filter p
  let t := forEach gone (fun c u => setOriginLamp c.origin .off u)
    (modLine l (fun x => { x with queue := x.queue.filter (fun c => !p c) }) s)
  let sounding := gone.any (fun c => match c.st with
    | .sounding _ => true
    | .waiting | .awaitingRepeat => false)
  (if sounding then soundingRemoved l t else t, gone.length)

/-- R126: a sounding is complete: its call has one repeat more and becomes AWAITING_REPEAT, due one interval later. -/
def soundingComplete (l : Nat) (s : State) : State :=
  modLine l (fun x => { x with
    queue := x.queue.map (fun c => match c.st with
      | .sounding _ =>
        { c with
          st := .awaitingRepeat
          repeats := c.repeats + 1
          due := some (inMs s (1000 * ((codeDef s c.code).map CodeDef.interval).getD 0))
          dueTaken := false }
      | .waiting | .awaitingRepeat => c) }) s

/-- R132: the current call is interrupted: it returns to its state before sounding. -/
def interruptCall (l : Nat) (s : State) : State :=
  modLine l (fun x => { x with
    queue := x.queue.map (fun c => match c.st with
      | .sounding true => { c with st := .awaitingRepeat }
      | .sounding false => { c with st := .waiting }
      | .waiting | .awaitingRepeat => c) }) s

/-- R126: the due time of a call arrives: the call expires as unanswered, or becomes eligible. -/
def callDue (l : Nat) (o : Origin) (c : Nat) (s : State) : State :=
  match (lineAt s l).queue.find? (fun x => x.origin == o && x.code == c) with
  | none => s
  | some x =>
    match x.st, x.due with
    | .awaitingRepeat, some t =>
      if x.dueTaken then s
      else
        let u := advanceTo t s
        if ((codeDef s c).map CodeDef.maxRepeats).getD 0 < x.repeats then
          setOriginLamp o .unanswered
            (queueEvent .callUnanswered (some l) (originCode o + 256 * c)
              (modLine l (fun r => { r with queue := r.queue.filter (fun y => !sameCall y x) }) u))
        else
          selectLine l (modLine l (fun r => { r with
            queue := mapCall x (fun y => { y with dueTaken := true }) r.queue }) u)
    | _, _ => s

/-! ### The cadence (R125, R131, R132) -/

/-- The number of strokes in the current group of the pattern. -/
def Line.strokesInGroup (x : Line) : Nat := x.pattern.getD x.group 0

/-- R125, R132: the on-time of a code stroke has ended. -/
def codeStrokeEnd (l : Nat) (s : State) : State :=
  let x := lineAt s l
  if x.stroke + 1 < x.strokesInGroup then
    modLine l (fun r => { r with on := false, timer := some (inMs s s.cfg.bells.strokeGap) }) s
  else if x.group + 1 < x.pattern.length then
    match x.pending with
    | some n => takeStrokes l n (interruptCall l s)
    | none => modLine l (fun r => { r with on := false, timer := some (inMs s s.cfg.bells.groupGap) }) s
  else enterGap l (soundingComplete l s)

/-- R123: the on-time of the line's stroke ends. A state that waited for this end begins now. -/
def onTimeEnd (l : Nat) (s : State) : State :=
  let x := lineAt s l
  let t := modLine l (fun r => { r with striker := none, deferred := false }) s
  if x.deferred then beginState l t
  else
    match x.st with
    | .call => if x.on then codeStrokeEnd l t else t
    | .idle | .strokes | .gap | .fireRinging | .silenced => t

/-- R125, R131, R133: the line timer expires. -/
def lineTimerEnd (l : Nat) (s : State) : State :=
  let x := lineAt s l
  let t := modLine l (fun r => { r with timer := none }) s
  match x.st with
  | .call =>
    if x.stroke + 1 < x.strokesInGroup then
      beginStroke l (modLine l (fun r => { r with stroke := r.stroke + 1 }) t)
    else beginStroke l (modLine l (fun r => { r with group := r.group + 1, stroke := 0 }) t)
  | .strokes =>
    if 1 < x.left then beginStroke l (modLine l (fun r => { r with left := r.left - 1 }) t)
    else enterGap l (modLine l (fun r => { r with left := 0 }) t)
  | .gap => selectLine l (enterLine l .idle t)
  | .fireRinging => beginStroke l t
  | .idle | .silenced => t

/-- The line stands in the group gap after a group that is not the last (R132). -/
def inGroupGap (x : Line) : Bool :=
  x.st == .call && !x.on && x.timer.isSome && decide (x.strokesInGroup ≤ x.stroke + 1)

/-- R130: a strokes request of the Closing Scheduler on one line. -/
def strokesRequest (l n : Nat) (s : State) : State × StrokesResult :=
  let x := lineAt s l
  match x.st with
  | .idle | .gap => (takeStrokes l n s, .taken)
  | .call =>
    if inGroupGap x then (takeStrokes l n (interruptCall l s), .taken)
    else (modLine l (fun r => { r with pending := some (max n (r.pending.getD 0)) }) s, .pending)
  | .strokes => (modLine l (fun r => { r with pending := some (max n (r.pending.getD 0)) }) s, .pending)
  | .fireRinging | .silenced => (s, .discarded)

/-! ### Station inputs (R120, R121, R127) -/

/-- R121: a press of a station. -/
def press (n : Nat) (s : State) : State :=
  match stationDef s n with
  | none => s
  | some d => if s.fire.latch then flashLamp n s else (ring d.line (.station n) d.code s).1

/-- R127: an attend at a station. -/
def attend (n : Nat) (s : State) : State :=
  match stationDef s n with
  | none => s
  | some d => setLamp n .off (removeCalls d.line (fun c => c.origin == .station n) s).1

/-! ### The bells under fire (R133, R135) -/

/-- R133: one line when the fire latch is set. -/
def lineLatchSet (l : Nat) (s : State) : State :=
  let n := (lineAt s l).queue.length
  let t := modLine l (fun x => { x with queue := [], pending := none }) s
  enterLine l .fireRinging (if n = 0 then t else queueEvent .callsCleared (some l) n t)

/-- R133: the fire latch is set. The lines are taken in ascending order (DESIGN CHOICE, log entry 54). -/
def bellsLatchSet (s : State) : State :=
  let t := forEach (List.range 8) lineLatchSet s
  { t with bells := { t.bells with lamps := Tab.fill 48 { steady := .off, flash := none } } }

/-- R135: a further zone alarm rings the silenced lines again. -/
def bellsFurtherAlarm (s : State) : State :=
  forEach (List.range 8) (fun l t => if (lineAt t l).st = .silenced then enterLine l .fireRinging t else t) s

/-- R135: FIRE RESET clears the latch: every line enters IDLE. -/
def bellsLatchCleared (s : State) : State := forEach (List.range 8) (enterLine · .idle ·) s

end Sys2Proof.Machine
end

