-- ==== Sys2Proof/Machine/Phrases.lean ====
section
/-! DEFINITION. The Phrase Store: the page map, the directory section and the store port (chapter 7). -/

namespace Sys2Proof.Machine

/-! ### Phrases and pages (R140, R142) -/

/-- The state with the Phrase Store's record changed by `f`. -/
def modStore (f : PhraseStore → PhraseStore) (s : State) : State := { s with phrases := f s.phrases }

/-- The record of phrase `p`. -/
def phraseAt (s : State) (p : Nat) : Phrase := s.phrases.phrases.items.getD p .empty

def setPhrase (p : Nat) (x : Phrase) (s : State) : State :=
  modStore (fun r => { r with phrases := r.phrases.put p x }) s

/-- The audio pages with the owner `o`, ascending. -/
def pagesOf (t : Tab 256 (Option Nat)) (o : Option Nat) : List Nat :=
  (List.range 256).filter (fun g => decide (1 ≤ g) && t.get g == o)

/-- R140: the page list of phrase `p`, in play order. -/
def pageList (s : State) (p : Nat) : List Nat := pagesOf s.phrases.owners (some p)

/-- The FREE pages, ascending. -/
def freePages (s : State) : List Nat := pagesOf s.phrases.owners none

/-- The pages a phrase of a length needs. -/
def pagesNeeded (length : Nat) : Nat := ceilDiv length 4096

/-- R140: the store address of byte `b` of phrase `p`. -/
def byteAddress (s : State) (p b : Nat) : Nat := pageAddr ((pageList s p).getD (b / 4096) 0) (b % 4096)

/-- The page-map entries of `pages` become `o`. -/
def setOwners (pages : List Nat) (o : Option Nat) (s : State) : State :=
  modStore (fun r => { r with owners := pages.foldl (fun t g => t.put g o) r.owners }) s

/-- R142: the `n` lowest-numbered FREE pages become owned by phrase `p`. -/
def allocate (p n : Nat) (s : State) : State := setOwners ((freePages s).take n) (some p) s

/-- The pages of phrase `p` become FREE. -/
def freePhrase (p : Nat) (s : State) : State := setOwners (pageList s p) none s

/-- R148: a channel begins phrase `p`: granted with the length when it is READY. -/
def beginUse (p : Nat) (s : State) : Option (State × Nat) :=
  match phraseAt s p with
  | .ready length n => some (setPhrase p (.ready length (n + 1)) s, length)
  | .empty | .loading _ _ => none

/-- R148: a channel ends phrase `p`. -/
def endUse (p : Nat) (s : State) : State :=
  match phraseAt s p with
  | .ready length n => setPhrase p (.ready length (n - 1)) s
  | .empty | .loading _ _ => s

def Phrase.code : Phrase → Nat
  | .empty => 0 | .loading _ _ => 1 | .ready _ _ => 2

/-- The length as the directory stores it; 0 for an EMPTY phrase (R144 and section 11.7 are silent: DESIGN CHOICE, log entry
71). -/
def Phrase.length : Phrase → Nat
  | .empty => 0
  | .loading n _ => n
  | .ready n _ => n

/-! ### The directory section (R139, R144, section 11.7) -/

/-- The 256 bytes of the phrase records. -/
def recordsImage (s : State) : List Byte :=
  s.phrases.phrases.items.flatMap (fun x => bytesLE 1 x.code ++ bytesLE 3 x.length)

/-- The 256 bytes of the page owners; the entry of page 0 is 0xFF. -/
def ownersImage (s : State) : List Byte :=
  (List.range 256).flatMap (fun g => if g = 0 then [0xFF#8] else optLE 1 (s.phrases.owners.get g))

/-- The sum that a good directory section has (R139). -/
def directorySum : Nat := 0x5AA5

/-- R144: the three write transfers of a directory write: the records, the owners, the check word (DESIGN CHOICE, log
entry 56). -/
def directoryChunks (s : State) : List Chunk :=
  [{ addr := 2048, bytes := recordsImage s }, { addr := 2304, bytes := ownersImage s },
   { addr := 2560, bytes := bytesLE 2 (checkWord directorySum (wordSum (recordsImage s ++ ownersImage s))) }]

/-- What a start finds in the directory section (R146). -/
structure Found where
  dir : DirState
  phrases : Tab 64 Phrase
  owners : Tab 256 (Option Nat)
  detail : Nat

/-- The stored record of phrase `p`: its state code and its length. -/
def storedPhrase (bs : List Byte) (p : Nat) : Nat × Nat := (numAt bs (4 * p) 1, numAt bs (4 * p + 1) 3)

/-- The stored owner byte of page `g`. -/
def storedOwner (bs : List Byte) (g : Nat) : Nat := numAt bs (256 + g) 1

/-- R146: the contents of a section whose check holds are consistent. -/
def directoryConsistent (bs : List Byte) : Bool :=
  (List.range 64).all (fun p =>
    let x := storedPhrase bs p
    decide (x.1 ≤ 2) &&
      (x.1 == 0 || (within 1 1044480 x.2 &&
        ((List.range 256).filter (fun g => decide (1 ≤ g) && storedOwner bs g == p)).length == pagesNeeded x.2))) &&
  (List.range 256).all (fun g =>
    g == 0 || storedOwner bs g == 255 ||
      (decide (storedOwner bs g ≤ 63) && (storedPhrase bs (storedOwner bs g)).1 != 0))

/-- R146: the directory of a start, from the 514 bytes of the section. -/
def findDirectory (bs : List Byte) : Found :=
  let lost (d : Nat) : Found := { dir := .lost, phrases := Tab.fill 64 .empty, owners := Tab.fill 256 none, detail := d }
  if wordSum bs ≠ directorySum then lost 1
  else if !directoryConsistent bs then lost 2
  else
    { dir := if (List.range 64).any (fun p => (storedPhrase bs p).1 == 1) then .recovered else .good
      phrases := Tab.make 64 (fun p =>
        let x := storedPhrase bs p
        if x.1 = 2 then .ready x.2 0 else .empty)
      owners := Tab.make 256 (fun g =>
        let o := storedOwner bs g
        if g = 0 ∨ o = 255 then none else if (storedPhrase bs o).1 = 2 then some o else none)
      detail := 0 }

/-! ### The store port (R149) -/

/-- R149: the transfer that comes next: the earlier waiting read, channel A before channel B, then the write stream. -/
def nextTransfer (r : PhraseStore) : Option Transfer :=
  match r.waitA, r.waitB with
  | some a, some b => if b.seq < a.seq then some (.read .b b false) else some (.read .a a false)
  | some a, none => some (.read .a a false)
  | none, some b => some (.read .b b false)
  | none, none => if r.stream.any (fun x => !x.chunks.isEmpty) then some .write else none

/-- R149: an idle port starts the next transfer. -/
def startPort (s : State) : State :=
  if s.phrases.busy.isSome then s
  else
    match nextTransfer s.phrases with
    | none => s
    | some .write => modStore (fun r => { r with busy := some .write }) s
    | some (.read .a q d) => modStore (fun r => { r with busy := some (.read .a q d), waitA := none }) s
    | some (.read .b q d) => modStore (fun r => { r with busy := some (.read .b q d), waitB := none }) s

/-- R149: the port with a read of channel A requested. Channel A goes before channel B where the two are requested at one
event: a read of B that the idle port has taken at this event waits again. -/
def askA (q : ReadReq) (r : PhraseStore) : PhraseStore :=
  match r.busy with
  | some (.read .b p false) =>
    if p.seq = q.seq then { r with busy := some (.read .a q false), waitB := some p } else { r with waitA := some q }
  | _ => { r with waitA := some q }

/-- A channel's read is requested. -/
def requestRead (ch : Chan) (q : ReadReq) (s : State) : State :=
  startPort
    (match ch with
     | .a => modStore (askA q) s
     | .b => modStore (fun r => { r with waitB := some q }) s)

/-- R163: the reads of a channel that stops: one that waits is withdrawn, one in progress is discarded at its end. -/
def withdrawReads (ch : Chan) (s : State) : State :=
  let discard (x : Option Transfer) : Option Transfer :=
    match x with
    | some (.read c q d) => some (.read c q (d || c == ch))
    | y => y
  match ch with
  | .a => modStore (fun r => { r with waitA := none, busy := discard r.busy }) s
  | .b => modStore (fun r => { r with waitB := none, busy := discard r.busy }) s

/-- A write stream is requested. -/
def startStream (kind : StreamKind) (chunks : List Chunk) (s : State) : State :=
  startPort (modStore (fun r => { r with stream := some { kind, chunks } }) s)

/-- R144: a directory write of the live directory as it now stands. -/
def startDirectoryWrite (kind : StreamKind) (s : State) : State := startStream kind (directoryChunks s) s

/-- A list of bytes in pieces of `n` bytes, in consecutive transfers from address `a` on. -/
def piecesOf (n a : Nat) : Nat → List Byte → List Chunk
  | 0, _ => []
  | fuel + 1, bs =>
    if bs.isEmpty then []
    else { addr := a, bytes := bs.take n } :: piecesOf n (a + n) fuel (bs.drop n)

/-- R143: the transfers of a PHRASE DATA write: one, or two where the bytes cross a page boundary. -/
def dataChunks (s : State) (p offset : Nat) (bs : List Byte) : List Chunk :=
  let room := 4096 - offset % 4096
  if bs.length ≤ room then [{ addr := byteAddress s p offset, bytes := bs }]
  else
    [{ addr := byteAddress s p offset, bytes := bs.take room },
     { addr := byteAddress s p (offset + room), bytes := bs.drop room }]

/-- The bytes of the store memory are written from address `a` on. -/
def writeStore (a : Nat) (bs : List Byte) (s : State) : State := { s with store := writeBytes s.store a bs }

/-! ### A reset that cuts a write (R144, R149, R202) -/

/-- A section is left with a check word that fails: the word at `at`, the section from `lo` on with `n` bytes before its
check word. -/
def failCheck (lo n goal seq : Nat) (m : List Host.Cell) : List Host.Cell :=
  let good := checkWord goal (wordSum (readBytes m lo n))
  writeBytes m (lo + n) (bytesLE 2 ((good + 1 + Config.cutCheck seq % 65535) % 65536))

/-- What a reset leaves of the store memory: the transfer in progress partly written, and the section of a write stream
that was cut with a check that fails (log entry 3). -/
def cutStore (s : State) : List Host.Cell :=
  match s.phrases.stream with
  | none => s.store
  | some x =>
    let m :=
      match s.phrases.busy, x.chunks with
      | some .write, c :: _ => writeBytes s.store c.addr (c.bytes.take (Config.cutCount s.time.seq))
      | _, _ => s.store
    match x.kind with
    | .data _ _ => m
    | .directory _ | .directoryReady _ _ => failCheck 2048 512 directorySum s.time.seq m
    | .settings => failCheck 0 1278 settingsSum s.time.seq m

end Sys2Proof.Machine
end

