-- ==== Sys2Proof/Machine/Announce.lean ====
section
/-! DEFINITION. The Announcement Controller: the operations of chapter 8 that its commands share. -/

namespace Sys2Proof.Machine

def modAnn (f : Announcer → Announcer) (s : State) : State := { s with ann := f s.ann }

/-- Announcement ends by their codes (section 11.5). -/
inductive AnnEnd where
  | completed | cancelled | dropped
deriving DecidableEq, Repr

def AnnEnd.code : AnnEnd → Nat
  | .completed => 0 | .cancelled => 1 | .dropped => 2

/-- ANNOUNCE_DONE with the handle as subject. -/
def announceDone (handle : Nat) (e : AnnEnd) (s : State) : State := queueEvent .announceDone (some handle) e.code s

/-! ### Records and channels -/

/-- The record of the table with the handle. -/
def recordOf (s : State) (handle : Nat) : Option Ann := s.ann.table.find? (fun r => r.handle == handle)

/-- The channel that plays the announcement with the handle. -/
def playingOn (s : State) (handle : Nat) : Option Chan :=
  if s.ann.chanA.handle = some handle then some .a
  else if s.ann.chanB.handle = some handle then some .b
  else none

/-- The record is QUEUED. -/
def Ann.queued (s : State) (r : Ann) : Bool := (playingOn s r.handle).isNone

/-- The record leaves the table. -/
def removeRecord (handle : Nat) (s : State) : State :=
  modAnn (fun x => { x with table := x.table.filter (fun r => r.handle != handle) }) s

/-- R158: the channel a candidate takes: A when it is IDLE, and otherwise B when that is. -/
def idleChannel (s : State) : Option Chan :=
  if s.ann.chanA.st = .idle then some .a
  else if s.ann.chanB.st = .idle then some .b
  else none

/-- A zone of the set is held by a playing announcement (R153). -/
def zonesHeld (s : State) (zones : Set8) : Bool :=
  (Set8.members zones).any (fun z => (s.ann.routing.get z).isSome)

/-- R153: the zones of the set are routed to the channel. -/
def routeTo (ch : Chan) (zones : Set8) (s : State) : State :=
  modAnn (fun x => { x with routing := (Set8.members zones).foldl (fun t z => t.put z (some ch)) x.routing }) s

/-- R153: every zone routed to the channel becomes NONE. -/
def unroute (ch : Chan) (s : State) : State :=
  modAnn (fun x => { x with routing := x.routing.map (fun r => if r = some ch then none else r) }) s

/-! ### Blocks (R150, R161) -/

/-- The buffer that block `j` uses: the two buffers take the blocks in turn. -/
def Channel.buffer (c : Channel) (j : Nat) : Buffer := if j % 2 = 0 then c.buf0 else c.buf1

def Channel.setBuffer (j : Nat) (b : Buffer) (c : Channel) : Channel :=
  if j % 2 = 0 then { c with buf0 := b } else { c with buf1 := b }

/-- A read of the channel waits or is in progress. -/
def Channel.reading (c : Channel) : Bool :=
  let requested (b : Buffer) : Bool :=
    match b with
    | .requested _ => true
    | .empty | .full _ _ => false
  requested c.buf0 || requested c.buf1

/-- The number of blocks of a phrase of a length. -/
def blockCount (length : Nat) : Nat := ceilDiv length 256

/-- The bytes that block `j` of a phrase of a length holds. -/
def blockLength (length j : Nat) : Nat := min 256 (length - 256 * j)

/-- R161: the channel requests its next block when the buffer for it is EMPTY, the phrase still has blocks not requested
and no read of the channel is under way. -/
def requestBlock (ch : Chan) (s : State) : State :=
  let c := channelAt s ch
  match c.st, c.granted with
  | .phrase, some p =>
    let len := (phraseAt s p).length
    if c.nextBlock < blockCount len && !c.reading && c.buffer c.nextBlock == .empty then
      requestRead ch
        { block := c.nextBlock, addr := byteAddress s p (256 * c.nextBlock), len := blockLength len c.nextBlock,
          seq := s.time.seq }
        (modChannel ch (fun x =>
          { Channel.setBuffer c.nextBlock (.requested c.nextBlock) x with nextBlock := c.nextBlock + 1 }) s)
    else s
  | _, _ => s

/-! ### Stopping a channel (R163) -/

/-- R163: the channel stops its announcement: its reads are withdrawn, its phrase is ended, its zones become NONE and it
becomes IDLE. -/
def stopChannel (ch : Chan) (s : State) : State :=
  let t := withdrawReads ch s
  let u :=
    match (channelAt t ch).granted with
    | some p => endUse p t
    | none => t
  modChannel ch (fun _ => Channel.idle) (unroute ch u)

/-- R159: the channel yields: the record has one restart more and is QUEUED again, or is dropped past two, with its
ANNOUNCE_DONE before the start rule is applied (log entry 78). -/
def yieldChannel (ch : Chan) (s : State) : State :=
  match (channelAt s ch).handle with
  | none => s
  | some h =>
    let t := stopChannel ch s
    if ((recordOf s h).map Ann.restarts).getD 0 < 2 then
      modAnn (fun x => { x with
        table := x.table.map (fun r => if r.handle = h then { r with restarts := r.restarts + 1 } else r) }) t
    else announceDone h .dropped (removeRecord h t)

/-! ### Playing phrases (R160, R162) -/

/-- R162: the phrase index has passed the end of the list. The answer says whether the channel has become IDLE. The
ANNOUNCE_DONE is queued before the start rule of R163 is applied, and so before the records it queues (DESIGN CHOICE, log
entry 78). -/
def passEnd (ch : Chan) (s : State) : State × Bool :=
  match (channelAt s ch).handle with
  | none => (s, false)
  | some h =>
    let c := channelAt s ch
    let passes := min 65535 (c.passes + 1)
    let t := modChannel ch (fun x => { x with passes }) s
    let repeats := (recordOf s h).map Ann.repeats
    if repeats.any (fun r => decide (r < passes)) then (announceDone h .completed (removeRecord h (stopChannel ch t)), true)
    else if c.yield then (yieldChannel ch t, true)
    else (modChannel ch (fun x => { x with st := .passGap, gap := some (inMs s 2000), sample := 128#8 }) t, false)

/-- R160: the channel begins the first of the phrases `rest` that is READY, from its phrase index on, and skips those
before it. The answer says whether the channel has become IDLE. -/
def playFrom (ch : Chan) : List Nat → State → State × Bool
  | [], s => passEnd ch s
  | p :: rest, s =>
    match beginUse p s with
    | some (t, _) =>
      (requestBlock ch (modChannel ch (fun x => { x with
        st := .phrase, granted := some p, offset := 0, block := 0, nextBlock := 0, buf0 := .empty, buf1 := .empty,
        sample := 128#8 }) t), false)
    | none =>
      let c := channelAt s ch
      let t :=
        if c.skips.contains c.index then s
        else
          modChannel ch (fun x => { x with skips := x.skips ++ [c.index] })
            (queueEvent .phraseSkipped c.handle p s)
      let u := modChannel ch (fun x => { x with index := c.index + 1, skipSeq := some s.time.seq }) t
      if c.yield && !rest.isEmpty then (yieldChannel ch u, true) else playFrom ch rest u

/-- R161, R162: the phrase the channel plays has ended. -/
def phraseEnded (ch : Chan) (s : State) : State × Bool :=
  let c := channelAt s ch
  let t := match c.granted with
    | some p => endUse p s
    | none => s
  let u := modChannel ch (fun x => { x with
    granted := none, index := c.index + 1, buf0 := .empty, buf1 := .empty, sample := 128#8 }) t
  let rest := c.phrases.drop (c.index + 1)
  if c.yield && !rest.isEmpty then (yieldChannel ch u, true) else playFrom ch rest u

/-! ### The start rule (R158, R159) -/

/-- What the start rule takes: a handle, whether it is of class CLOSING, its zones and its phrases. -/
structure Candidate where
  handle : Nat
  closing : Bool
  zones : Set8
  phrases : List Nat

def Ann.candidate (r : Ann) : Candidate :=
  { handle := r.handle, closing := r.cls == .closing, zones := r.zones, phrases := r.phrases }

/-- R158: the QUEUED records of a class, oldest first. Records stand in the table in the order of their entry. -/
def queuedOf (s : State) (c : AnnClass) : List Ann := s.ann.table.filter (fun r => r.cls == c && r.queued s)

/-- R165: the evacuation record as a candidate. -/
def evacCandidate (s : State) : List Candidate :=
  match s.cfg.evac with
  | some ps =>
    if s.ann.wanted && (playingOn s 0).isNone then [{ handle := 0, closing := false, zones := 0xFF#8, phrases := ps }]
    else []
  | none => []

/-- R158: the candidates in the order in which the rule goes through them. -/
def candidates (s : State) : List Candidate :=
  evacCandidate s ++ ((queuedOf s .closing ++ queuedOf s .general).map Ann.candidate)

/-- R158: the candidate starts on the channel. -/
def startOn (ch : Chan) (c : Candidate) (s : State) : State :=
  (playFrom ch c.phrases
    (modChannel ch (fun _ => { Channel.idle with
      st := .phrase, handle := some c.handle, phrases := c.phrases, startSeq := s.time.seq })
      (routeTo ch c.zones s))).1

/-- The channel plays a GENERAL announcement. -/
def playsGeneral (s : State) (ch : Chan) : Bool :=
  match (channelAt s ch).handle with
  | some h => (recordOf s h).any (fun r => r.cls == .general)
  | none => false

/-- The channel's announcement holds a zone of the set. -/
def holdsZoneOf (s : State) (ch : Chan) (zones : Set8) : Bool :=
  (Set8.members zones).any (fun z => s.ann.routing.get z == some ch)

def setYield (ch : Chan) (s : State) : State := modChannel ch (fun x => { x with yield := true }) s

/-- R159: the channel of the GENERAL announcement that started latest; B of two started at one event. -/
def latestGeneral (s : State) : Option Chan :=
  match playsGeneral s .a, playsGeneral s .b with
  | true, true => if s.ann.chanB.startSeq < s.ann.chanA.startSeq then some .a else some .b
  | true, false => some .a
  | false, true => some .b
  | false, false => none

/-- R159: a CLOSING candidate that cannot start marks announcements to yield. -/
def markYields (c : Candidate) (s : State) : State :=
  let mark (ch : Chan) (t : State) : State :=
    if playsGeneral t ch && holdsZoneOf t ch c.zones then setYield ch t else t
  let t := mark .b (mark .a s)
  if (idleChannel t).isNone && !t.ann.chanA.yield && !t.ann.chanB.yield then
    match latestGeneral t with
    | some ch => setYield ch t
    | none => t
  else t

/-- R159: a marked channel yields at once when it rests in PASS_GAP, or when it has skipped a phrase at this event, though
it has begun the next one since. A mark set before that event has been taken at the skip itself. What one event is, stands
in log entry 59 (DEDUCED). -/
def yieldDue (s : State) (ch : Chan) : Bool :=
  let c := channelAt s ch
  c.yield && (c.st == .passGap || c.st == .phrase && c.skipSeq == some s.time.seq)

/-- One pass of the start rule over the candidates. The answer says whether the rule is to be applied again. Where both
channels yield at one event, A yields before B, and the rule is applied again after both (DESIGN CHOICE, log entry 58). -/
def startPass : List Candidate → State → State × Bool
  | [], s => (s, false)
  | c :: rest, s =>
    match idleChannel s, zonesHeld s c.zones with
    | some ch, false => (startOn ch c s, true)
    | _, _ =>
      if c.closing then
        let t := markYields c s
        if yieldDue t .a || yieldDue t .b then
          let u := if yieldDue t .a then yieldChannel .a t else t
          (if yieldDue u .b then yieldChannel .b u else u, true)
        else startPass rest t
      else startPass rest s

/-- R158: the start rule, applied again after each start and each yield. At one event each of at most 12 records starts at
most three times and yields at most three times before it plays on or has left the table, and the evacuation starts once, so
128 rounds are more than any event needs (log entry 39). -/
def startRule : Nat → State → State
  | 0, s => s
  | fuel + 1, s =>
    match startPass (candidates s) s with
    | (t, true) => startRule fuel t
    | (t, false) => t

/-- R158: the start rule. -/
def applyStartRule (s : State) : State := startRule 128 s

/-- The start rule is applied where a channel has become IDLE. -/
def afterChannel (r : State × Bool) : State := if r.2 then applyStartRule r.1 else r.1

/-! ### Entering and leaving the table (R155, R157) -/

/-- The announcement table holds at most 12 records. -/
def annCapacity : Nat := 12

/-- R155: the next handle. -/
def nextHandle (s : State) : Nat :=
  (((List.range 255).map (fun k => (s.ann.lastHandle + k) % 255 + 1)).find?
    (fun h => (recordOf s h).isNone)).getD 1

/-- R155: a record is entered, and the start rule is applied. -/
def enterRecord (cls : AnnClass) (zones : Set8) (phrases : List Nat) (repeats : Nat) (s : State) : State × Nat :=
  let h := nextHandle s
  (applyStartRule (modAnn (fun x => { x with
    table := x.table ++ [{ handle := h, cls, zones, phrases, repeats, restarts := 0, entry := x.nextEntry }]
    lastHandle := h
    nextEntry := x.nextEntry + 1 }) s), h)

/-- R157: a closing announcement. The answer is its handle, none when it is refused. -/
def closingAnnouncement (zones : Set8) (phrases : List Nat) (s : State) : State × Option Nat :=
  let enter (t : State) : State × Option Nat :=
    let r := enterRecord .closing zones phrases 0 t
    (r.1, some r.2)
  if s.fire.latch then (s, none)
  else if s.ann.table.length < annCapacity then enter s
  else
    match (queuedOf s .general).getLast? with
    | some r => enter (announceDone r.handle .dropped (removeRecord r.handle s))
    | none => (s, none)

/-- R163: the announcement with the handle is stopped where it plays. -/
def stopHandle (h : Nat) (s : State) : State :=
  match playingOn s h with
  | some ch => stopChannel ch s
  | none => s

/-! ### The announcements under fire (R166) -/

/-- R166: the fire latch is set. -/
def annLatchSet (s : State) : State :=
  let t := forEach s.ann.table (fun r u => announceDone r.handle .dropped (stopHandle r.handle u)) s
  applyStartRule (modAnn (fun x => { x with table := [], wanted := true }) t)

/-- R166: a further zone alarm. -/
def annFurtherAlarm (s : State) : State := applyStartRule (modAnn (fun x => { x with wanted := true }) s)

/-- R165: the wanted flag is cleared, and a playing evacuation is stopped, with its ANNOUNCE_DONE before the start rule is
applied (log entry 78). -/
def stopEvacuation (s : State) : State :=
  let t := modAnn (fun x => { x with wanted := false }) s
  if (playingOn t 0).isSome then applyStartRule (announceDone 0 .cancelled (stopHandle 0 t)) else t

/-- R166: FIRE RESET clears the latch. -/
def annLatchCleared (s : State) : State := stopEvacuation s

/-! ### What ends of reads, blocks and gaps do (R161, R162) -/

/-- R161: the block that a read has brought is FULL. -/
def blockArrived (ch : Chan) (q : ReadReq) (s : State) : State :=
  requestBlock ch (modChannel ch (Channel.setBuffer q.block (.full q.block (readBytes s.store q.addr q.len))) s)

/-- R149: the read in progress has been completed; the port starts the next transfer. -/
def readDone (s : State) : State :=
  match s.phrases.busy with
  | some (.read ch q d) =>
    let t := modStore (fun r => { r with busy := none }) s
    startPort (if d then t else blockArrived ch q t)
  | some .write => s
  | none => s

/-- The channel plays block `j`: its buffer is FULL with that block. -/
def Channel.playing (c : Channel) : Option (Nat × List Byte) :=
  match c.st, c.buffer c.block with
  | .phrase, .full j bs => if j = c.block then some (j, bs) else none
  | _, _ => none

/-- R161: the block now playing has ended. -/
def blockEnded (ch : Chan) (s : State) : State :=
  match (channelAt s ch).playing with
  | none => s
  | some (j, bs) =>
    let t := modChannel ch (fun x => { Channel.setBuffer j .empty x with offset := 256 * j + bs.length }) s
    let len := ((channelAt s ch).granted.map (fun p => (phraseAt s p).length)).getD 0
    if j + 1 < blockCount len then requestBlock ch (modChannel ch (fun x => { x with block := j + 1 }) t)
    else afterChannel (phraseEnded ch t)

/-- R162, R165: the gap has ended: the next pass begins, the evacuation with the phrase list now in force. -/
def gapEnded (ch : Chan) (s : State) : State :=
  let c := channelAt s ch
  let phrases := if c.handle = some 0 then s.cfg.evac.getD c.phrases else c.phrases
  afterChannel (playFrom ch phrases (modChannel ch (fun x => { x with
    st := .phrase, gap := none, index := 0, phrases }) s))

/-- R154: one sample time of a channel: the next byte of the block now playing, or 128. -/
def sampleChannel (ch : Chan) (s : State) : State :=
  let c := channelAt s ch
  match c.playing with
  | some (j, bs) =>
    if c.offset < 256 * j + bs.length then
      modChannel ch (fun x => { x with sample := bs.getD (c.offset - 256 * j) 128#8, offset := c.offset + 1 }) s
    else modChannel ch (fun x => { x with sample := 128#8 }) s
  | none => modChannel ch (fun x => { x with sample := 128#8 }) s

end Sys2Proof.Machine
end

