-- ==== Sys2Proof/Machine/Closing.lean ====
section
/-! DEFINITION. The Closing Scheduler: the operations of chapter 9 that its commands share. -/

namespace Sys2Proof.Machine

def modProg (f : Programme → Programme) (s : State) : State := { s with prog := f s.prog }

/-! ### Slots, due times and the programme time (R172, R173) -/

def stepDef (s : State) (k : Nat) : Option ClosingStep := s.cfg.steps.get k

/-- The defined slots, ascending. -/
def definedSlots (s : State) : List Nat := (List.range 16).filter (fun k => (stepDef s k).isSome)

/-- R173: the programme time P, counted from the midnight that begins the programme day. -/
def progTime (s : State) : Nat :=
  s.clock.seconds + 86400 * ((s.clock.weekday + 7 - (s.prog.day.getD s.clock.weekday) % 7) % 7)

/-- R172: the due time of a step with an offset. -/
def dueTime (s : State) (offset : Int) : Int := s.prog.reference + 60 * offset + 60 * (s.prog.delay : Int)

/-- R172: the due time of slot `k`, none for an empty slot. -/
def slotDue (s : State) (k : Nat) : Option Int := (stepDef s k).map (fun x => dueTime s x.offset)

/-- The due time of the lowest-numbered defined slot: the start due time. -/
def startDue (s : State) : Option Int := (definedSlots s).head?.bind (slotDue s)

/-- The due time of the highest-numbered defined slot. -/
def lastDue (s : State) : Option Int := (definedSlots s).getLast?.bind (slotDue s)

/-- The closing time of the clock's weekday, in minutes. -/
def closingToday (s : State) : Option Nat := s.cfg.times.get s.clock.weekday

def setResult (k : Nat) (r : StepResult) (s : State) : State :=
  modProg (fun p => { p with results := p.results.put k r }) s

/-! ### Step actions (R175 to R178) -/

def stepDone (k : Nat) (a : StepAction) (info : DoneInfo) (s : State) : State :=
  queueEvent .stepDone (some k) a.code (setResult k (.done info) s)

/-- The high byte of the detail of STEP_SKIPPED: the refusing outcome or the loop state. -/
def SkipReason.info : SkipReason → Nat
  | .stale => 0
  | .announceRefused fire => if fire then ReqOutcome.code .fireMode else ReqOutcome.code .queueFull
  | .loopNotRunning st => st.code
  | .loopNotStopped st => st.code

def stepSkipped (k : Nat) (r : SkipReason) (s : State) : State :=
  queueEvent .stepSkipped (some k) (r.code + 256 * r.info) (setResult k (.skipped r) s)

/-- R177: what the loop state says of a LOOP_STOP step: done, skipped, or none while the step holds. -/
def loopRest (s : State) : Option Bool :=
  match s.loop.st with
  | .parked | .unreferenced | .unconfigured => some true
  | .faultStop => some false
  | .stoppedFoul => if s.loop.exhausted then some false else none
  | .referencing | .starting | .running | .draining | .stopping | .braking | .creeping => none

/-- R177: the LOOP_STOP step of slot `k` finishes with what the loop state says. -/
def finishLoopStop (k : Nat) (a : StepAction) (ok : Bool) (s : State) : State :=
  if ok then stepDone k a (.loopAt s.loop.st) s else stepSkipped k (.loopNotStopped s.loop.st) s

/-- R177, R178: the programme is HELD on slot `k`, and the hold timer starts. -/
def enterHeld (k minutes : Nat) (w : Option CloseWatch) (s : State) : State :=
  modProg (fun p => { p with st := .held, next := some k, hold := some (inMs s (60000 * minutes)), watch := w }) s

/-- R178: the mark of a watched shutter after a change. -/
def watchMark (s : State) (i : Nat) (m : WatchMark) : WatchMark :=
  match m with
  | .ended c => .ended c
  | .pending =>
    let x := shutterAt s i
    if x.motion = .closed then .ended true
    else if x.fault.isSome || x.demand.isNone then .ended false
    else .pending

def CloseWatch.update (s : State) (w : CloseWatch) : CloseWatch :=
  { w with shutters := w.shutters.map (fun p => (p.1, watchMark s p.1 p.2)) }

def CloseWatch.allEnded (w : CloseWatch) : Bool :=
  w.shutters.all (fun p => match p.2 with
    | .ended _ => true
    | .pending => false)

/-- R178: the watched shutters that reached CLOSED: those that being CLOSED marked ENDED (DESIGN CHOICE, log entry 61). -/
def CloseWatch.reached (w : CloseWatch) : List Nat :=
  w.shutters.filterMap (fun p => match p.2 with
    | .ended true => some p.1
    | .ended false | .pending => none)

/-- The watched shutters still PENDING. -/
def CloseWatch.pendingIds (w : CloseWatch) : List Nat :=
  w.shutters.filterMap (fun p => match p.2 with
    | .pending => some p.1
    | .ended _ => none)

/-- R178: the SHUTTERS_CLOSE step of slot `k` is done. -/
def finishClose (k : Nat) (a : StepAction) (w : CloseWatch) (s : State) : State :=
  stepDone k a (.shutters (w.shutters.map Prod.fst) w.satisfied w.refused w.reached) s

/-- R20: the lockout of a set of floors; floors of L or above are passed over. -/
def lockFloors (fs : Set8) (s : State) : State :=
  modLoop (fun x => { x with
    lockout := Tab.make 8 (fun l => x.lockout.get l || (decide (l < s.cfg.geom.landings) && fs.getLsbD l)) }) s

/-- The landings whose lockout flag is set. -/
def lockedLandings (s : State) : Set8 :=
  BitVec.ofNat 8 (maskOf ((List.range 8).filter (fun l => s.loop.lockout.get l)))

/-- R130: the strokes request on each line of a set, in ascending order (log entry 54), with the answers. -/
def strokesOn (n : Nat) (lines : List Nat) (s : State) : State × List (Nat × StrokesResult) :=
  lines.foldl (fun (r : State × List (Nat × StrokesResult)) l =>
    let q := strokesRequest l n r.1
    (q.1, r.2 ++ [(l, q.2)])) (s, [])

/-- R175: the step begun now is stale. -/
def isStale (s : State) (x : ClosingStep) : Bool :=
  (match x.action with
   | .announce _ _ | .strokes _ _ => true
   | .loopDrain | .loopStop _ | .shuttersClose _ _ | .landingsLock _ => false)
    && decide (dueTime s x.offset + 120 < (progTime s : Int))

/-- R175 to R178: the step of slot `k` is begun. The answer says whether it has finished. -/
def beginStep (k : Nat) (x : ClosingStep) (s : State) : State × Bool :=
  if isStale s x then (stepSkipped k .stale s, true)
  else
    match x.action with
    | .announce ps zs =>
      match closingAnnouncement zs ps s with
      | (t, some h) => (stepDone k x.action (.announced h) t, true)
      | (t, none) => (stepSkipped k (.announceRefused s.fire.latch) t, true)
    | .strokes n ls =>
      let r := strokesOn n (Set8.members ls) s
      (stepDone k x.action (.strokes r.2) r.1, true)
    | .landingsLock fs =>
      let t := lockFloors fs s
      (stepDone k x.action (.locked (lockedLandings t)) t, true)
    | .loopDrain =>
      if s.loop.st = .running then (stepDone k x.action .drained (takeDrain s).1, true)
      else (stepSkipped k (.loopNotRunning s.loop.st) s, true)
    | .loopStop hold =>
      let t := takeStop false s
      match loopRest t with
      | some ok => (finishLoopStop k x.action ok t, true)
      | none => (enterHeld k hold none t, false)
    | .shuttersClose g hold =>
      let r := offerAll (groupShutters s g) .close .closing s
      let w : CloseWatch :=
        { shutters := r.2.placed.map (fun i => (i, .pending)), satisfied := r.2.satisfied, refused := r.2.refused }
      if w.shutters.isEmpty then (finishClose k x.action w r.1, true)
      else (enterHeld k hold (some w) r.1, false)

/-! ### Due steps, start and arming (R172 to R175) -/

/-- How many result records satisfy `p`. -/
def countResults (s : State) (p : StepResult → Bool) : Nat := (s.prog.results.items.filter p).length

def StepResult.isDone : StepResult → Bool
  | .done _ => true
  | .notReached | .skipped _ | .timedOut _ | .aborted => false

def StepResult.isMissed : StepResult → Bool
  | .skipped _ | .timedOut _ => true
  | .notReached | .done _ | .aborted => false

/-- The programme becomes COMPLETE, and the next step index none (DESIGN CHOICE, log entry 60). -/
def enterComplete (s : State) : State :=
  modProg (fun p => { p with st := .complete, next := none, hold := none, watch := none }) s

/-- R175: every step has been begun and ended. -/
def completeProgramme (s : State) : State :=
  queueEvent .closingComplete (some (countResults s StepResult.isMissed)) (countResults s StepResult.isDone)
    (enterComplete s)

/-- R175: the programme takes due steps through the slots given. -/
def takeDue : List Nat → State → State
  | [], s => completeProgramme s
  | k :: rest, s =>
    match stepDef s k with
    | none => takeDue rest s
    | some x =>
      if dueTime s x.offset ≤ (progTime s : Int) then
        match beginStep k x s with
        | (t, true) => takeDue rest t
        | (t, false) => t
      else modProg (fun p => { p with next := some k }) s

/-- The slots from `k` on. -/
def slotsFrom (k : Nat) : List Nat := (List.range 16).drop k

/-- R174: P is past the due time of the highest-numbered defined slot. -/
def whollyMissed (s : State) : Bool := (lastDue s).any (fun d => decide (d < (progTime s : Int)))

/-- R174, R180: the programme is found wholly missed. -/
def missProgramme (s : State) : State := queueEvent .closingMissed none 1 (enterComplete s)

/-- R174: a start of the programme; the subject of CLOSING_STARTED tells an armed start (0) from CLOSING START (1). -/
def startProgramme (subject : Nat) (s : State) : State :=
  if s.fire.latch then queueEvent .closingMissed none 2 (modProg (fun p => { p with st := .aborted }) s)
  else if whollyMissed s then missProgramme s
  else
    takeDue (slotsFrom 0)
      (queueEvent .closingStarted (some subject) (signed16 (s.prog.reference.fdiv 60))
        (modProg (fun p => { p with st := .running, next := (definedSlots s).head? }) s))

/-- R173: the start test of an ARMED programme. -/
def startTest (s : State) : State :=
  if s.prog.st = .armed && (startDue s).any (fun d => decide (d ≤ (progTime s : Int))) then startProgramme 0 s else s

/-- R172: arming for the clock's present day, without the start test. In ARMED the next step index is the lowest-numbered
defined slot: DEDUCED from the worked case of section 9.9 (log entry 37). -/
def armCore (s : State) : State :=
  let today := s.clock.weekday
  let armed := s.clock.isSet && (closingToday s).isSome && !(definedSlots s).isEmpty
  modProg (fun p =>
    { st := if armed then .armed else .idle
      day := some today
      reference := if armed then 60 * (((closingToday s).getD 0 : Nat) : Int) else p.reference
      delay := if p.day = some today then p.delay else 0
      next := if armed then (definedSlots s).head? else none
      hold := none
      watch := none
      results := Tab.fill 16 .notReached
      pastMidnight := false }) s

/-- R172, R173: arming with its start test. -/
def arm (s : State) : State := startTest (armCore s)

/-- R181: a programme that took a midnight while RUNNING or HELD and has become COMPLETE or ABORTED is followed at once by
the arming for the clock's day (log entry 25). -/
def settleEnd (s : State) : State :=
  if (s.prog.st = .complete ∨ s.prog.st = .aborted) ∧ s.prog.pastMidnight = true then arm s else s

/-! ### Holds and the end of the programme (R179, R180, R184, R185) -/

/-- R179: the hold on slot `k` has ended: the programme returns to RUNNING and takes due steps. -/
def resumeAfter (k : Nat) (s : State) : State :=
  settleEnd (takeDue (slotsFrom (k + 1))
    (modProg (fun p => { p with st := .running, next := some k, hold := none, watch := none }) s))

/-- The held slot with its step, while the programme is HELD. -/
def heldStep (s : State) : Option (Nat × ClosingStep) :=
  if s.prog.st = .held then
    match s.prog.next with
    | some k => (stepDef s k).map (fun x => (k, x))
    | none => none
  else none

/-- R177 to R179: the held step looks at its owner's present state. -/
def pollHold (s : State) : State :=
  match heldStep s with
  | none => s
  | some (k, x) =>
    match s.prog.watch with
    | some w =>
      let u := w.update s
      if u.allEnded then resumeAfter k (finishClose k x.action u s)
      else modProg (fun p => { p with watch := some u }) s
    | none =>
      match loopRest s with
      | some ok => resumeAfter k (finishLoopStop k x.action ok s)
      | none => s

/-- R179: the hold timer has expired. -/
def holdExpired (s : State) : State :=
  match heldStep s with
  | none => s
  | some (k, x) =>
    let info : TimeoutInfo :=
      match s.prog.watch with
      | some w => .pendingShutters w.pendingIds
      | none => .loopAt s.loop.st
    resumeAfter k (queueEvent .stepTimeout (some k) x.action.code (setResult k (.timedOut info) s))

/-- Abort causes by their codes (section 11.5). -/
inductive AbortCause where
  | host | fire | clock
deriving DecidableEq, Repr

def AbortCause.code : AbortCause → Nat
  | .host => 0 | .fire => 1 | .clock => 2

/-- R180, R184, R185: a RUNNING or HELD programme becomes ABORTED; the result of a held step becomes ABORTED, but not for
a clock set to another day. -/
def abortProgramme (c : AbortCause) (s : State) : State :=
  let t :=
    match s.prog.st, s.prog.next with
    | .held, some k => if c = .clock then s else setResult k .aborted s
    | _, _ => s
  queueEvent .closingAborted s.prog.next c.code
    (modProg (fun p => { p with st := .aborted, hold := none, watch := none }) t)

/-- The programme is RUNNING or HELD. -/
def programmeRuns (s : State) : Bool := s.prog.st == .running || s.prog.st == .held

/-- R185: the fire latch is set. -/
def progLatchSet (s : State) : State := if programmeRuns s then settleEnd (abortProgramme .fire s) else s

/-- A RUNNING programme takes the steps now due from its next step on. -/
def takeDueNow (s : State) : State :=
  match s.prog.next with
  | some k => takeDue (slotsFrom k) s
  | none => s

/-- R168, R172, R173, R175, R181: a second tick of a clock that is SET. -/
def secondTick (s : State) : State :=
  let midnight := s.clock.seconds = 86399
  let t : State := { s with clock := { s.clock with
    seconds := if midnight then 0 else s.clock.seconds + 1
    weekday := if midnight then (s.clock.weekday + 1) % 7 else s.clock.weekday
    tickDue := s.clock.tickDue + 1000 } }
  let u :=
    if midnight then
      if programmeRuns t then modProg (fun p => { p with pastMidnight := true }) t else armCore t
    else t
  match u.prog.st with
  | .armed => startTest u
  | .running => settleEnd (takeDueNow u)
  | .idle | .held | .complete | .aborted => u

/-- R169, R180: the clock is set. -/
def setClock (seconds weekday : Nat) (s : State) : State :=
  let before := progTime s
  let t : State := { s with clock := { isSet := true, seconds, weekday, tickDue := inMs s 1000 } }
  match s.prog.st with
  | .idle | .armed => arm t
  | .complete | .aborted => if s.prog.day = some weekday then t else arm t
  | .running | .held =>
    let day := s.prog.day.getD weekday
    if weekday = day ∨ weekday = (day + 1) % 7 then
      if before < progTime t && s.prog.st == .running then
        settleEnd (if whollyMissed t then missProgramme t else takeDueNow t)
      else t
    else arm (abortProgramme .clock t)

/-! ### What ends every event that others may react to -/

/-- What follows every event on the loop, the shutters, the zones, the clock and the field: the held step of the
programme looks at its owner, and the grant queue and a due sweep are served (R26, R103, R110, R178). -/
def finish (s : State) : State := serveBridges (pollHold s)

end Sys2Proof.Machine
end

