-- ==== Sys2Proof/Machine/Fire.lean ====
section
/-! DEFINITION. The Fire Zone Monitor: bands, confirmation runs, the fire latch and what it hands to the other blocks
(chapter 3). -/

namespace Sys2Proof.Machine

def modFire (f : Fire → Fire) (s : State) : State := { s with fire := f s.fire }

def zoneDef (s : State) (z : Nat) : ZoneDef := s.cfg.zones.get z

def zoneAt (s : State) (z : Nat) : Zone := s.fire.zones.get z

def setZone (z : Nat) (x : Zone) (s : State) : State := modFire (fun r => { r with zones := r.zones.put z x }) s

/-- R57: the plain band of a reading. -/
def ZoneDef.plainBand (d : ZoneDef) (v : Nat) : Band :=
  if v < d.t1 then .short else if v < d.t2 then .normal else if v < d.t3 then .alarm else .open

/-- R57: the home band of a zone state, none for DISABLED. -/
def ZoneState.home : ZoneState → Option Band
  | .disabled => none
  | .normal => some .normal
  | .alarm => some .alarm
  | .openFault => some .open
  | .shortFault => some .short

/-- The state whose home band it is. -/
def Band.state : Band → ZoneState
  | .short => .shortFault
  | .normal => .normal
  | .alarm => .alarm
  | .open => .openFault

/-- The lower limit of a band, included, and its upper limit, excluded. -/
def ZoneDef.limits (d : ZoneDef) : Band → Nat × Nat
  | .short => (0, d.t1)
  | .normal => (d.t1, d.t2)
  | .alarm => (d.t2, d.t3)
  | .open => (d.t3, 1024)

/-- R57: the reading lies within the band widened by h. -/
def ZoneDef.widened (d : ZoneDef) (b : Band) (v : Nat) : Bool :=
  decide ((d.limits b).1 - d.h ≤ v) && decide (v < min 1024 ((d.limits b).2 + d.h))

/-- R58: the raw band of a reading, for a zone whose home band is `home`. -/
def ZoneDef.rawBand (d : ZoneDef) (home : Band) (v : Nat) : Band := if d.widened home v then home else d.plainBand v

/-- R59: the confirmation run after a sample with a raw band. -/
def nextRun (home raw : Band) (run : Option (Band × Nat)) : Option (Band × Nat) :=
  if raw = home then none
  else
    match run with
    | some (b, n) => if b = raw then some (b, n + 1) else some (raw, 1)
    | none => some (raw, 1)

/-! ### The latch (R62, R63) -/

/-- R63: the readers take the setting of the latch. -/
def latchReaders (s : State) : State :=
  progLatchSet (annLatchSet (bellsLatchSet (shuttersLatchSet (loopLatchSet s))))

/-- R63: the readers take a further zone alarm. -/
def furtherReaders (s : State) : State := annFurtherAlarm (bellsFurtherAlarm (shuttersFurtherAlarm s))

/-- R62: an enabled zone has entered ALARM, and its ZONE_ALARM is queued. -/
def zoneAlarm (z : Nat) (s : State) : State :=
  let t := modFire (fun r => { r with alarmed := Set8.insert r.alarmed z }) s
  if s.fire.latch then furtherReaders t
  else
    latchReaders (queueEvent .fireLatched (some z) (zoneDef s z).floor (modFire (fun r => { r with latch := true }) t))

/-- R60: the zone has entered a state on its readings, from the state `old`. -/
def zoneEntered (z : Nat) (old new : ZoneState) (s : State) : State :=
  match new with
  | .alarm => zoneAlarm z (queueEvent .zoneAlarm (some z) (zoneDef s z).floor s)
  | .openFault => queueEvent .zoneFault (some z) 0 s
  | .shortFault => queueEvent .zoneFault (some z) 1 s
  | .normal => queueEvent .zoneNormal (some z) old.code s
  | .disabled => s

/-- R54, R58, R59, R61: a sample of zone `z`. -/
def zoneSample (z v : Nat) (s : State) : State :=
  let x := zoneAt s z
  match x.st.home with
  | none => setZone z { x with latest := some v } s
  | some home =>
    match nextRun home ((zoneDef s z).rawBand home v) x.run with
    | none => setZone z { x with latest := some v, run := none } s
    | some (b, n) =>
      if (zoneDef s z).k ≤ n then
        zoneEntered z x.st b.state (setZone z { st := b.state, run := none, latest := some v } s)
      else setZone z { x with latest := some v, run := some (b, n) } s

/-- The lowest-numbered zone in ALARM. -/
def alarmZone (s : State) : Option Nat := (List.range 8).find? (fun z => (zoneAt s z).st == .alarm)

/-- R64: the latch is cleared, FIRE_RESET is queued and the readers take the change. -/
def clearLatch (s : State) : State :=
  let n := (Set8.members s.fire.alarmed).length
  annLatchCleared (bellsLatchCleared (shuttersLatchCleared
    (queueEvent .fireReset none n (modFire (fun r => { r with latch := false, alarmed := 0#8 }) s))))

end Sys2Proof.Machine
end

