-- ==== Sys2Proof/Machine/FieldScan.lean ====
section
/-! DEFINITION. The Field Scan Interface: acceptance of the inputs, the loss and the return of the chain, and what each
block does with the inputs it is handed (chapter 11, sections 11.1 to 11.3). -/

namespace Sys2Proof.Machine

/-! ### Acceptance (R205, R207) -/

/-- What a good scan does with an input: its first acceptance, a change of its accepted value, or its fresh acceptance
with whether the value differs from the held one. -/
inductive Acceptance where
  | first
  | change
  | fresh (differs : Bool)
deriving DecidableEq, Repr, Inhabited

/-- R205, R207: one input at a good scan while FIELD_LOST is clear. A first acceptance, too, wants two good scans in a row
that agree (DEDUCED, log entry 64). -/
def acceptPoint (v : Bool) (x : InPoint) : InPoint × Option Acceptance :=
  if x.raw = some v then
    if x.awaiting then
      ({ accepted := some v, raw := some v, awaiting := false },
        some (match x.accepted with
          | none => .first
          | some w => .fresh (w != v)))
    else
      match x.accepted with
      | none => ({ x with accepted := some v }, some .first)
      | some w => if w = v then (x, none) else ({ x with accepted := some v }, some .change)
  else ({ x with raw := some v }, none)

/-- R207: one input at the good scan that returns the chain. -/
def returnPoint (v : Bool) (x : InPoint) : InPoint := { x with raw := some v, awaiting := true }

/-- The inputs after a good scan. -/
def scanInputs (v : BitVec 256) (t : Tab 256 InPoint) : Tab 256 InPoint :=
  Tab.make 256 (fun p => (acceptPoint (v.getLsbD p) (t.get p)).1)

/-- What the scan has done with each input. -/
def scanReports (v : BitVec 256) (t : Tab 256 InPoint) : Tab 256 (Option Acceptance) :=
  Tab.make 256 (fun p => (acceptPoint (v.getLsbD p) (t.get p)).2)

/-- The input's accepted value has changed, a fresh acceptance that differs included. -/
def Acceptance.changed : Acceptance → Bool
  | .first => false
  | .change => true
  | .fresh d => d

/-- What a scan has done with input `p`. -/
abbrev Reports := Tab 256 (Option Acceptance)

def Reports.changedAt (r : Reports) (p : Nat) : Bool := (r.get p).any Acceptance.changed

def Reports.firstAt (r : Reports) (p : Nat) : Bool := r.get p == some .first

/-- An active edge of an input whose owner takes a fresh acceptance that differs as a change. -/
def Reports.activeEdge (r : Reports) (s : State) (p : Nat) : Bool := r.changedAt p && active s p

/-! ### The Loop Controller's inputs (R14, R17, R49) -/

/-- R14, R15: the sill sensors of the watched openings, in ascending opening number (DESIGN CHOICE, log entry 46). -/
def takeSills (r : Reports) (s : State) : State :=
  forEach s.cfg.geom.watched (fun p t => if r.activeEdge t (sillPoint p.1) then sillEdge p.1 p.2 t else t) s

/-- Both beams of opening `o` are accepted CLEAR, and neither awaits fresh acceptance. -/
def beamsClear (s : State) (o : Nat) : Bool :=
  acceptedAt s (outerPoint o) == some false && acceptedAt s (innerPoint o) == some false
    && !(s.field.inputs.get (outerPoint o)).awaiting && !(s.field.inputs.get (innerPoint o)).awaiting

/-- R17: the two beams of opening `o` at a good scan. -/
def takeBeams (r : Reports) (o : Nat) (s : State) : State :=
  let outer := r.changedAt (outerPoint o)
  let inner := r.changedAt (innerPoint o)
  if outer && inner then setRecogniser o .waitClear s
  else
    let t := if s.loop.recognisers.get o == .waitClear && beamsClear s o then setRecogniser o .rest s else s
    if outer then beamChange o { inner := false, broken := active t (outerPoint o) } (beamsClear t o) t
    else if inner then beamChange o { inner := true, broken := active t (innerPoint o) } (beamsClear t o) t
    else t

/-- R49: an input is accepted active now, as a change, a first or a fresh acceptance. -/
def acceptedActive (r : Reports) (s : State) (p : Nat) : Bool := (r.get p).isSome && active s p

/-- R49: landing stop buttons and turn flaps: the buttons in ascending landing, then the top flap, then the bottom flap
(DESIGN CHOICE, log entry 47). -/
def takeStops (r : Reports) (s : State) : State :=
  let t := forEach (List.range (min 8 s.cfg.geom.landings)) (fun l u =>
    if acceptedActive r u (buttonPoint l) then loopFault .landingStop (some l) u else u) s
  let u := if acceptedActive r t topFlapPoint then loopFault .turnFlap (some 0) t else t
  if acceptedActive r u bottomFlapPoint then loopFault .turnFlap (some 1) u else u

/-! ### The Shutter Controller's inputs (R71, R72, R78, R81, R82, R84) -/

/-- The limits of shutter `i` at a good scan. -/
def takeLimits (r : Reports) (i : Nat) (s : State) : State :=
  let first := r.firstAt (topLimitPoint i) || r.firstAt (bottomLimitPoint i)
  let top := r.changedAt (topLimitPoint i)
  let bottom := r.changedAt (bottomLimitPoint i)
  if first || top || bottom then
    if (shutterAt s i).motion.driven then
      limitsDriven i ((top || r.firstAt (topLimitPoint i)) && active s (topLimitPoint i))
        ((bottom || r.firstAt (bottomLimitPoint i)) && active s (bottomLimitPoint i)) s
    else if first then limitsFirst i s
    else limitsAtRest i s
  else s

/-- The sill sensors as the Shutter Controller takes them: obstructions first, then the re-examination of its demands. -/
def takeShutterSills (r : Reports) (s : State) : State :=
  let t := forEach (List.range 16) (fun o u => if r.activeEdge u (sillPoint o) then sillObstructs o u else u) s
  if (List.range 16).any (fun o => r.changedAt (sillPoint o)) then reexamine t else t

/-- The limits, the safety edges and the sill sensors of the defined shutters. -/
def takeShutterInputs (r : Reports) (s : State) : State :=
  let t := forEach (definedShutters s) (takeLimits r) s
  takeShutterSills r
    (forEach (definedShutters t) (fun i u => if r.activeEdge u (edgePoint i) then edgeActive i u else u) t)

/-! ### The Bell Controller's inputs (R120) -/

/-- R120: an active edge between two accepted values. -/
def stationEdge (r : Reports) (s : State) (p : Nat) : Bool := r.get p == some .change && active s p

/-- R120: presses and attends, in ascending station order; of one station the press before the attend (DESIGN CHOICE, log
entry 52). -/
def takeStations (r : Reports) (s : State) : State :=
  forEach (definedStations s) (fun n t =>
    let u := if stationEdge r t (callPoint n) then press n t else t
    if stationEdge r u (attendPoint n) then attend n u else u) s

/-! ### Good and bad scans (R205 to R207) -/

/-- The check word the terminating plug returns. -/
def scanCheckWord : BitVec 16 := 0x5A3C#16

def modField (f : Field → Field) (s : State) : State := { s with field := f s.field }

/-- R205: a good scan while FIELD_LOST is clear. The order of the input groups is the model's (DESIGN CHOICE, log entry 18),
and so is the order within a group: sill edges and crossings in ascending opening number (log entry 46). -/
def goodScan (v : BitVec 256) (s : State) : State :=
  let r := scanReports v s.field.inputs
  let t := modField (fun x => { x with inputs := scanInputs v x.inputs, mismatches := 0 }) s
  let u := takeStops r (forEach (t.cfg.geom.watched.map Prod.fst) (takeBeams r) (takeSills r t))
  takeStations r (takeShutterInputs r u)

/-- R207: the first good scan while FIELD_LOST is set. -/
def returnScan (v : BitVec 256) (s : State) : State :=
  queueEvent .fieldRestored none s.field.losses
    (modField (fun x => { x with
      inputs := Tab.make 256 (fun p => returnPoint (v.getLsbD p) (x.inputs.get p))
      mismatches := 0
      lost := false }) s)

/-- R206: the condition is handed to the blocks. -/
def fieldLostReaders (s : State) : State :=
  let t := shuttersFieldLost (loopFault .fieldLost none s)
  modLoop (fun x => { x with recognisers := Tab.fill 16 .waitClear }) t

/-- R206: a bad scan. -/
def badScan (s : State) : State :=
  if s.field.lost then modField (fun x => { x with losses := min 65535 (x.losses + 1) }) s
  else if s.field.mismatches + 1 < 3 then modField (fun x => { x with mismatches := x.mismatches + 1 }) s
  else
    fieldLostReaders (queueEvent .fieldLost none 0
      (modField (fun x => { x with mismatches := 3, losses := 0, lost := true }) s))

/-- The scan event: the inputs are taken, the cards latch the outputs that a good scan has carried to them, and the next
scan begins with the outputs as they now stand. -/
def scanDone (v : BitVec 256) (check : BitVec 16) (s : State) : State :=
  let good := check = scanCheckWord
  let t := finish (if good then (if s.field.lost then returnScan v s else goodScan v s) else badScan s)
  modField (fun x => { x with latched := if good then x.sending else x.latched, sending := outputs t }) t

end Sys2Proof.Machine
end

