-- ==== Sys2Proof/Machine/Reset.lean ====
section
/-! DEFINITION. The reset of the whole part: power-on, the reset pin and RESTART (R25, R68, R99, R138, R152, R187, R201,
R204). -/

namespace Sys2Proof.Machine

/-- Reset causes by their codes (section 11.5). -/
inductive ResetCause where
  | powerOn | resetPin | restart
deriving DecidableEq, Repr

def ResetCause.code : ResetCause → Nat
  | .powerOn => 0 | .resetPin => 1 | .restart => 2

/-- Sections 1.8 and 2.11: the Loop Controller after a reset with the settings `c`. -/
def resetLoop (c : Settings) : Loop :=
  { State.reset.loop with
    st := if c.geom.valid then .unreferenced else .unconfigured
    cars := List.replicate c.geom.cars Occ.unknown
    standTimer := some c.timing.standstill }

/-- R68: the Fire Zone Monitor after a reset. -/
def resetFire (c : Settings) : Fire :=
  { State.reset.fire with
    zones := c.zones.map (fun d => { st := if d.enable then .normal else .disabled, run := none, latest := none }) }

/-- Section 5.10: the Drive Bridge Unit after a reset. -/
def resetBridges (c : Settings) : Bridges :=
  { State.reset.bridges with sweepTimer := if c.bridges.sweep = 0 then none else some (60000 * c.bridges.sweep) }

/-- R201, R204: the settings source is none but LOADED. -/
def SettingsSource.isDefault : SettingsSource → Bool
  | .loaded => false
  | .checkFailed | .rangeFailed => true

/-- The part right after a reset with the settings `c` from `src` and the directory `f`, over the store memory `m`, with
the commands `pending` waiting. The outputs the cards have latched are taken as off from the reset itself on (DESIGN CHOICE,
log entry 73). -/
def resetState (cause : ResetCause) (src : SettingsSource) (c : Settings) (f : Found) (m : List Host.Cell)
    (pending : List Instr) : State :=
  { State.reset with
    pending
    cfg := c
    store := m
    loop := resetLoop c
    fire := resetFire c
    bridges := resetBridges c
    phrases := { State.reset.phrases with phrases := f.phrases, owners := f.owners, dir := f.dir }
    link := { State.reset.link with
      settingsDefault := src.isDefault
      events := [{ kind := .startUp, subject := some cause.code, detail := src.code + 256 * f.dir.code, time := none }] } }

/-- R146: the directory write of a RECOVERED or LOST start is complete before the first request is read. -/
def startUpWrite (s : State) : State :=
  match s.phrases.dir with
  | .good => s
  | .recovered | .lost => { s with store := (directoryChunks s).foldl (fun m c => writeBytes m c.addr c.bytes) s.store }

/-- R146, R201, R204: a reset with a cause. The commands that wait, and the contents of the store memory but for a write
that the reset cuts, are all that a reset keeps. -/
def resetPart (cause : ResetCause) (s : State) : State :=
  let m := cutStore s
  let loaded := loadSettings (readBytes m 0 1280)
  let f := findDirectory (readBytes m 2048 514)
  let t := startUpWrite (resetState cause loaded.2 loaded.1 f m s.pending)
  if f.dir = .lost then queueEvent .directoryLost none f.detail t else t

/-- POWER_ON (R204). -/
def execPowerOn (s : State) : Host.Outcome State Fault Refusal := .next (resetPart .powerOn s)

/-- RESET_PIN (R204). -/
def execResetPin (s : State) : Host.Outcome State Fault Refusal := .next (resetPart .resetPin s)

end Sys2Proof.Machine
end

