-- ==== Sys2Proof/Machine/HouseLink.lean ====
section
/-! DEFINITION. The House Link Interface: taking a request, composing its reply, the receive framer (sections 10.1 to
10.3), and the operations its requests share. -/

namespace Sys2Proof.Machine

def modLink (f : Link → Link) (s : State) : State := { s with link := f s.link }

/-! ### Requests and replies (R192, R193) -/

/-- What an owner returns: an outcome with its payload; the same with EVENTS_LOST as it stood before (R196); or nothing
yet, where the reply waits for a write. -/
inductive Answer where
  | now (outcome : ReqOutcome) (payload : List Byte)
  | nowLost (outcome : ReqOutcome) (payload : List Byte) (lost : Bool)
  | later
deriving DecidableEq, Repr

/-- An owner's effect. -/
abbrev Owner := State → State × Answer

/-- The request is refused and the state left as it is. -/
def refuse (o : ReqOutcome) (payload : List Byte) : Owner := fun s => (s, .now o payload)

/-- The request leaves the state as it is and is answered DONE. -/
def answerDone (payload : List Byte) : Owner := fun s => (s, .now .done payload)

/-- R192: a reply is composed. -/
def compose (kind tag : Byte) (o : ReqOutcome) (summ : Byte) (payload : List Byte) (s : State) : State :=
  modLink (fun l => { l with
    reply := some { kind := kind ||| 0x80#8, tag, outcome := o, summary := summ, payload }
    waiting := none
    dropAgain := false }) s

/-- Section 10.2: the bytes of a frame with a body: the start byte, the length, the body and the check byte, which makes the
sum of the length, the body and itself a multiple of 256. -/
def frameBytes (body : List Byte) : List Byte :=
  0x7E#8 :: BitVec.ofNat 8 body.length :: (body ++ [0#8 - body.foldl (· + ·) (BitVec.ofNat 8 body.length)])

/-- R192: the body of a reply, its parts in order: kind, tag, outcome, summary byte and payload. -/
def Reply.body (r : Reply) : List Byte := r.kind :: r.tag :: BitVec.ofNat 8 r.outcome.code :: r.summary :: r.payload

/-- R192: the frame of a reply as it is sent: its length is 4 plus the payload length, and it has its own check byte. -/
def Reply.frame (r : Reply) : List Byte := frameBytes r.body

/-- The bytes the part sends on the serial line from the composition of a reply to REPLY_SENT, one after another with no
gap (R192); none while it has no reply to send. -/
def serialOut (s : State) : List Byte := (s.link.reply.map Reply.frame).getD []

/-- R192: what follows an owner's answer: the reply is composed now, or waits for a write. -/
def respond (kind tag : Byte) (r : State × Answer) : State :=
  match r.2 with
  | .now o p => compose kind tag o (summary r.1) p r.1
  | .nowLost o p l => compose kind tag o (summaryWith l r.1) p r.1
  | .later => modLink (fun l => { l with waiting := some (kind, tag) }) r.1

/-- R191: the framer is CLOSED by a good frame. -/
def closeFramer (s : State) : State := modLink (fun l => { l with closed := true, kept := [], gap := none }) s

/-- The dropped-frame flag is set (R190, R191). -/
def setDropped (s : State) : State := modLink (fun l => { l with dropped := true, dropAgain := true }) s

/-- R191, R192: a request frame with the kind and tag arrives whole: it is handed to its owner, or is lost while the
framer is CLOSED (log entry 7). -/
def request (kind tag : Byte) (own : Owner) (s : State) : State :=
  if s.link.closed then setDropped s else respond kind tag (own (closeFramer s))

/-- The settings-changed flag is set (R199). -/
def markChanged (s : State) : State := modLink (fun l => { l with settingsChanged := true }) s

/-- An accepted define request: CLAMPED when some value was brought to a limit, and DONE otherwise. -/
def defined (unclamped : Bool) (payload : List Byte) (s : State) : State × Answer :=
  (markChanged s, .now (if unclamped then .done else .clamped) payload)

/-- An owner's effect with what ends every event that the loop, the shutters and the programme may react to. -/
def finishing (own : Owner) : Owner := fun s => (finish (own s).1, (own s).2)

/-! ### The receive framer (R189 to R191) -/

/-- What the framer makes of bytes: whether a candidate was dropped, the bytes of the candidate now under way, and the body
of a good frame with the bytes after it. -/
structure Framed where
  dropped : Bool
  kept : List Byte
  frame : Option (List Byte × List Byte)
deriving DecidableEq, Repr

/-- What the bytes after a start byte are: not yet a whole frame, a good frame, or one to be dropped (R189, R190). -/
inductive CandidateFrame where
  | partly
  | good (body rest : List Byte)
  | bad
deriving DecidableEq, Repr

/-- The sum that makes a frame's check hold: the length, the body and the check make a multiple of 256 (section 10.2). -/
def frameSum (n : Byte) (body : List Byte) (check : Byte) : Byte := body.foldl (· + ·) n + check

/-- R189: the candidate test. -/
def frameGood (n : Byte) (body : List Byte) (check : Byte) : Bool :=
  frameSum n body check == 0#8 && !body.all (· == 0x00#8) && !body.all (· == 0xFF#8)

/-- R189: the bytes after a start byte. -/
def candidateOf : List Byte → CandidateFrame
  | [] => .partly
  | n :: bs =>
    if within 3 240 n.toNat then
      match bs.drop n.toNat with
      | [] => .partly
      | check :: rest =>
        if frameGood n (bs.take n.toNat) check then .good (bs.take n.toNat) rest else .bad
    else .bad

/-- R189, R190: the framer hunts through bytes: a start byte begins a candidate, and a dropped candidate is hunted again from
the byte after its start byte. -/
def hunt : List Byte → Framed
  | [] => { dropped := false, kept := [], frame := none }
  | b :: bs =>
    if b = 0x7E#8 then
      match candidateOf bs with
      | .partly => { dropped := false, kept := b :: bs, frame := none }
      | .good body rest => { dropped := false, kept := [], frame := some (body, rest) }
      | .bad => { hunt bs with dropped := true }
    else hunt bs

/-! ### The start of the part's own answers -/

/-- R188: the five link rates. -/
def linkRates : List Nat := [9600, 19200, 38400, 57600, 115200]

/-- R191, R193, R203: the last byte of the reply has been sent. -/
def replySent (s : State) : State :=
  match s.link.reply with
  | none => s
  | some _ =>
    let t := modLink (fun l => { l with
      reply := none
      closed := false
      rate := l.newRate.getD l.rate
      newRate := none
      dropped := l.dropAgain
      dropAgain := false
      restarted := false
      restarting := false }) s
    if s.link.restarting then resetPart .restart t else t

/-! ### Writes that a reply waits for (R143 to R145, R202) -/

/-- The reply that waits is composed. -/
def replyNow (o : ReqOutcome) (payload : List Byte) (s : State) : State :=
  match s.link.waiting with
  | some (k, t) => compose k t o (summary s) payload s
  | none => s

/-- What the last transfer of a write stream does. SAVE SETTINGS clears SETTINGS_DEFAULT before its reply, with the summary,
is composed (DESIGN CHOICE, log entry 63), and PHRASE CLOSE queues PHRASE_READY before its reply (DESIGN CHOICE, log entry
70). -/
def streamDone (k : StreamKind) (s : State) : State :=
  match k with
  | .directory payload => replyNow .done payload s
  | .directoryReady p payload =>
    replyNow .done payload (queueEvent .phraseReady (some p) (pageList s p).length s)
  | .data p n =>
    match phraseAt s p with
    | .loading len got => replyNow .done (bytesLE 3 (got + n)) (setPhrase p (.loading len (got + n)) s)
    | .empty | .ready _ _ => replyNow .done [] s
  | .settings =>
    replyNow .done [] (modLink (fun l => { l with settingsDefault := false, settingsChanged := false }) s)

/-- R149: the write transfer in progress has been completed. -/
def writeDone (s : State) : State :=
  match s.phrases.busy, s.phrases.stream with
  | some .write, some x =>
    match x.chunks with
    | [] => s
    | c :: rest =>
      let t := writeStore c.addr c.bytes s
      if rest.isEmpty then streamDone x.kind (startPort (modStore (fun r => { r with busy := none, stream := none }) t))
      else startPort (modStore (fun r => { r with busy := none, stream := some { x with chunks := rest } }) t)
  | _, _ => s

end Sys2Proof.Machine
end

