-- ==== Sys2Proof/Machine/BellCommands.lean ====
section
/-! DEFINITION. The commands of the Bell Controller: the requests and the timer events of chapter 6. -/

namespace Sys2Proof.Machine

/-! ### Definitions (R117, R118, R136) -/

/-- DEFINE CODE (R117). -/
def ownDefineCode (code : Nat) (groups : List Nat) (urgency : Nat) (repeats : Option (Nat × Nat)) : Owner := fun s =>
  if codeReqOk code groups urgency then
    let d := clampCode groups urgency repeats
    defined (codeUnclamped groups repeats d) (codeBytes d)
      { s with cfg := { s.cfg with codes := s.cfg.codes.put code (some d) } }
  else (s, .now .badValue [])

/-- R118: what a DEFINE STATION makes of a station: undefined, defined, or none for a value out of range. -/
def stationOf (s : State) (enable : Nat) (lineCode : Option (Nat × Nat)) : Option (Option StationDef) :=
  match enable, lineCode with
  | 0, _ => some none
  | 1, some (l, c) => if l < 8 ∧ c < 16 ∧ (codeDef s c).isSome = true then some (some { line := l, code := c }) else none
  | _, _ => none

/-- R118: the station is the origin of a call in some line's queue. -/
def stationCalls (s : State) (n : Nat) : Bool :=
  s.bells.lines.items.any (fun x => x.queue.any (fun c => c.origin == .station n))

/-- DEFINE STATION (R118). -/
def ownDefineStation (n enable : Nat) (lineCode : Option (Nat × Nat)) : Owner := fun s =>
  match if n < 48 then stationOf s enable lineCode else none with
  | none => (s, .now .badValue [])
  | some d =>
    if stationCalls s n then (s, .now .wrongState [])
    else
      defined true []
        (modLamp n (fun _ => { steady := .off, flash := none })
          { s with cfg := { s.cfg with stations := s.cfg.stations.put n d } })

/-- DEFINE BELL TIMING (R136). -/
def ownDefineBellTiming (v : BellTiming) : Owner := fun s =>
  let w := clampBells v
  if bellsOrdered w then defined (w == v) (bellBytes w) { s with cfg := { s.cfg with bells := w } }
  else (s, .now .badValue [])

/-! ### BELL RING, BELL ANSWER, BELL SILENCE (R122, R128, R134) -/

/-- The answers to a ring by a byte each: CREATED 0, RAISED 1, REFUSED 2 (log entry 9). -/
def RingResult.code : RingResult → Nat
  | .created => 0 | .raised => 1 | .refused => 2

/-- The urgency of the LINK call of a code on a line. -/
def linkUrgency (s : State) (l c : Nat) : Nat :=
  (((lineAt s l).queue.find? (fun x => x.origin == .link && x.code == c)).map Call.urgency).getD 0

/-- R122: a ring on each line 0 to 7, with the answers in line order. -/
def ringAll (c : Nat) (s : State) : State × List RingResult :=
  (List.range 8).foldl (fun (r : State × List RingResult) l =>
    let q := ring l .link c r.1
    (q.1, r.2 ++ [q.2])) (s, [])

/-- BELL RING (R122). With ALL, the mask of the refusing lines stands before the answers (DESIGN CHOICE, log entry 87). -/
def ownBellRing (line : Member) (c : Nat) : Owner := fun s =>
  if s.fire.latch then (s, .now .fireMode [])
  else if c < 16 ∧ (codeDef s c).isSome = true then
    match line with
    | .one l =>
      if l < 8 then
        match ring l .link c s with
        | (t, .refused) => (t, .now .queueFull [])
        | (t, r) => (t, .now .done (bytesLE 1 r.code ++ bytesLE 1 (linkUrgency t l c)))
      else (s, .now .badValue [])
    | .all =>
      let r := ringAll c s
      let refusing := (List.range 8).filter (fun l => r.2.getD l .created == .refused)
      let each := r.2.flatMap (fun x => bytesLE 1 x.code)
      if refusing.isEmpty then (r.1, .now .done each) else (r.1, .now .queueFull (setBytes 1 refusing ++ each))
  else (s, .now .badValue [])

/-- R128: every call of a code is removed from a line, with the lamps that follow. The answer is how many there were. -/
def answerLine (l c : Nat) (s : State) : State × Nat :=
  let r := removeCalls l (fun x => x.code == c) s
  (forEach ((definedStations s).filter (fun n =>
      stationDef s n == some { line := l, code := c } && (r.1.bells.lamps.get n).steady == .unanswered))
    (fun n u => setLamp n .off u) r.1, r.2)

/-- R128: the lines of an answer, in order, with the calls removed in all. -/
def answerLines (ls : List Nat) (c : Nat) (s : State) : State × Nat :=
  ls.foldl (fun (r : State × Nat) l =>
    let q := answerLine l c r.1
    (q.1, r.2 + q.2)) (s, 0)

/-- The lines a member names; none where it is out of range. -/
def linesOf : Member → Option (List Nat)
  | .one l => if l < 8 then some [l] else none
  | .all => some (List.range 8)

/-- BELL ANSWER (R128). -/
def ownBellAnswer (line : Member) (c : Nat) : Owner := fun s =>
  match if c < 16 then linesOf line else none with
  | none => (s, .now .badValue [])
  | some ls =>
    if (codeDef s c).isNone then (s, .now .done (bytesLE 1 0))
    else
      let r := answerLines ls c s
      (r.1, .now .done (bytesLE 1 r.2))

/-- R134: a line that is FIRE_RINGING enters SILENCED. -/
def silenceLine (l : Nat) (s : State) : State :=
  if (lineAt s l).st = .fireRinging then enterLine l .silenced s else s

/-- The lines that are SILENCED. -/
def silencedLines (s : State) : List Nat := (List.range 8).filter (fun l => (lineAt s l).st == .silenced)

/-- BELL SILENCE (R134). -/
def ownBellSilence (line : Member) : Owner := fun s =>
  if !s.fire.latch then (s, .now .wrongState [])
  else
    match linesOf line with
    | none => (s, .now .badValue [])
    | some ls =>
      let t := forEach ls silenceLine s
      (t, .now .done (setBytes 1 (silencedLines t)))

/-! ### QUERY BELL LINE (R137) -/

/-- R137: the queue in the order R124 would select from it now: the eligible calls, then the others, which R124 would not
select, by urgency and age too (DESIGN CHOICE, log entry 67). -/
def selectionOrder (q : List Call) : List Call :=
  orderBy callBefore (q.filter Call.eligible) ++ orderBy callBefore (q.filter (fun c => !c.eligible))

/-- R137: a call with its age and its time to due in seconds. A call that is AWAITING_REPEAT with its due time taken or
passed has the time to due 0 (DESIGN CHOICE, log entry 76). -/
def callBytes (s : State) (c : Call) : List Byte :=
  bytesLE 1 (originCode c.origin) ++ bytesLE 1 c.code ++ bytesLE 1 c.urgency ++ bytesLE 1 c.st.code
    ++ bytesLE 1 c.repeats ++ bytesLE 3 ((s.time.now - c.raisedAt) / 1000)
    ++ optLE 2 (if c.st = .awaitingRepeat then c.due.map (fun t => (t - s.time.now) / 1000) else none)

/-- R137: a station with its code, lamp state and the time left on a flash. The lamp state is the steady state, also while
a flash runs (DESIGN CHOICE, log entry 77). -/
def stationBytes (s : State) (n : Nat) : List Byte :=
  bytesLE 1 n ++ optLE 1 ((stationDef s n).map StationDef.code) ++ bytesLE 1 (s.bells.lamps.get n).steady.code
    ++ optLE 2 (remaining s (s.bells.lamps.get n).flash)

/-- The current call of a line. -/
def currentCall (x : Line) : Option Call := x.queue.find? (fun c => match c.st with
  | .sounding _ => true
  | .waiting | .awaitingRepeat => false)

/-- R137: the position in the pattern: group, stroke and whether its ON phase runs; none, 0xFF, outside CALL. Groups and
strokes are counted from 0 (DESIGN CHOICE, log entry 82). While the first stroke waits for the end of an on-time in
progress (R123), the phase is OFF (DESIGN CHOICE, log entry 68). -/
def positionBytes (x : Line) : List Byte :=
  if x.st = .call then bytesLE 1 x.group ++ bytesLE 1 x.stroke ++ flagByte x.on else List.replicate 3 0xFF#8

/-- Section 6.4: when the interval on the line timer ends. The model keeps a stroke's on-time apart from the other
intervals; where none of those runs, the on-time is the interval on the line timer (log entry 45). -/
def Line.intervalEnd (x : Line) : Option Nat := x.timer.or x.striker

/-- R137: the payload of QUERY BELL LINE; a field that the line's state does not have is 0xFF, and a pattern it does not
have is the empty list (log entry 9). -/
def queryLinePayload (s : State) (l first : Nat) : List Byte :=
  let x := lineAt s l
  let stations := (definedStations s).filter (fun n =>
    decide (first ≤ n) && (stationDef s n).any (fun d => d.line == l))
  bytesLE 1 x.st.code ++ flagByte x.striker.isSome
    ++ optLE 1 ((currentCall x).map (fun c => originCode c.origin)) ++ optLE 1 ((currentCall x).map Call.code)
    ++ listBytes (if x.st = .call then x.pattern else []) ++ positionBytes x
    ++ optLE 1 (if x.st = .strokes then some x.left else none) ++ optLE 1 x.pending
    ++ optLE 2 (remaining s x.intervalEnd)
    ++ bytesLE 1 x.queue.length ++ (selectionOrder x.queue).flatMap (callBytes s)
    ++ bytesLE 1 (stations.take 16).length ++ (stations.take 16).flatMap (stationBytes s)
    ++ flagByte (decide (16 < stations.length))

/-- QUERY BELL LINE (R137). -/
def ownQueryBellLine (line : Member) (first : Nat) : Owner := fun s =>
  match line with
  | .all => (s, .now .scopeNotSingle [])
  | .one l =>
    if l < 8 ∧ first < 48 then (s, .now .done (queryLinePayload s l first)) else (s, .now .badValue [])

/-! ### Requests -/

def reqDefineCode (tag : Byte) (c : Nat) (gs : List Nat) (u : Nat) (r : Option (Nat × Nat)) : State → State :=
  request 0x30#8 tag (ownDefineCode c gs u r)
def reqDefineStation (tag : Byte) (n e : Nat) (lc : Option (Nat × Nat)) : State → State :=
  request 0x31#8 tag (ownDefineStation n e lc)
def reqDefineBellTiming (tag : Byte) (v : BellTiming) : State → State := request 0x32#8 tag (ownDefineBellTiming v)
def reqBellRing (tag : Byte) (l : Member) (c : Nat) : State → State := request 0x33#8 tag (ownBellRing l c)
def reqBellAnswer (tag : Byte) (l : Member) (c : Nat) : State → State := request 0x34#8 tag (ownBellAnswer l c)
def reqBellSilence (tag : Byte) (l : Member) : State → State := request 0x35#8 tag (ownBellSilence l)
def reqQueryBellLine (tag : Byte) (l : Member) (n : Nat) : State → State := request 0x36#8 tag (ownQueryBellLine l n)

/-! ### Meanings -/

/-- DEFINE_CODE (R117). -/
def execDefineCode (tag : Byte) (code : Nat) (groups : List Nat) (urgency : Nat) (repeats : Option (Nat × Nat))
    (s : State) : Host.Outcome State Fault Refusal := .next (reqDefineCode tag code groups urgency repeats (stamp s))

/-- DEFINE_STATION (R118). -/
def execDefineStation (tag : Byte) (station enable : Nat) (lineCode : Option (Nat × Nat)) (s : State) :
    Host.Outcome State Fault Refusal := .next (reqDefineStation tag station enable lineCode (stamp s))

/-- DEFINE_BELL_TIMING (R136). -/
def execDefineBellTiming (tag : Byte) (v : BellTiming) (s : State) : Host.Outcome State Fault Refusal :=
  .next (reqDefineBellTiming tag v (stamp s))

/-- BELL_RING (R122). -/
def execBellRing (tag : Byte) (line : Member) (code : Nat) (s : State) : Host.Outcome State Fault Refusal :=
  .next (reqBellRing tag line code (stamp s))

/-- BELL_ANSWER (R128). -/
def execBellAnswer (tag : Byte) (line : Member) (code : Nat) (s : State) : Host.Outcome State Fault Refusal :=
  .next (reqBellAnswer tag line code (stamp s))

/-- BELL_SILENCE (R134). -/
def execBellSilence (tag : Byte) (line : Member) (s : State) : Host.Outcome State Fault Refusal :=
  .next (reqBellSilence tag line (stamp s))

/-- QUERY_BELL_LINE (R137). -/
def execQueryBellLine (tag : Byte) (line : Member) (first : Nat) (s : State) : Host.Outcome State Fault Refusal :=
  .next (reqQueryBellLine tag line first (stamp s))

/-- STRIKER_ON_TIME_END (R123). -/
def execStrikerOnTimeEnd (l : Fin 8) (s : State) : Host.Outcome State Fault Refusal :=
  .next (expire (lineAt s l).striker (onTimeEnd l) (stamp s))

/-- LINE_TIMER (R125). -/
def execLineTimer (l : Fin 8) (s : State) : Host.Outcome State Fault Refusal :=
  .next (expire (lineAt s l).timer (lineTimerEnd l) (stamp s))

/-- CALL_DUE_TIME (R126). -/
def execCallDueTime (l : Fin 8) (origin : Origin) (code : Nat) (s : State) : Host.Outcome State Fault Refusal :=
  .next (callDue l origin code (stamp s))

/-- FLASH_TIMER (R119). -/
def execFlashTimer (n : Fin 48) (s : State) : Host.Outcome State Fault Refusal :=
  .next (expire (s.bells.lamps.get n).flash (fun t => modLamp n (fun x => { x with flash := none }) t) (stamp s))

end Sys2Proof.Machine
end

