-- ==== Sys2Proof/Machine/ClosingCommands.lean ====
section
/-! DEFINITION. The commands of the Closing Scheduler: the requests and the tick and timer events of chapter 9. -/

namespace Sys2Proof.Machine

/-- The store clock with its state: a flag, the seconds and the weekday. -/
def clockBytes (c : Clock) : List Byte := flagByte c.isSet ++ bytesLE 3 c.seconds ++ bytesLE 1 c.weekday

/-- A due time or a closing reference in three signed bytes, none as 0xFF (log entry 9). -/
def dueBytes : Option Int → List Byte
  | none => List.replicate 3 0xFF#8
  | some x => signedLE 3 x

/-- SET CLOCK (R169). -/
def ownSetClock (seconds weekday : Nat) : Owner := fun s =>
  if seconds < 86400 ∧ weekday < 7 then
    finishing (fun t =>
      let u := setClock seconds weekday t
      (u, .now .done (clockBytes t.clock ++ clockBytes u.clock))) s
  else (s, .now .badValue [])

/-- A table of the given entries; the entries past them are `none`. -/
def tabOf {α : Type} (n : Nat) (xs : List (Option α)) : Tab n (Option α) := Tab.make n (fun i => xs.getD i none)

/-- R170, R171: in IDLE and ARMED the arming is made again. -/
def armAgain (s : State) : State :=
  match s.prog.st with
  | .idle | .armed => arm s
  | .running | .held | .complete | .aborted => s

/-- DEFINE CLOSING TIMES (R170). -/
def ownDefineClosingTimes (times : List (Option Nat)) : Owner := fun s =>
  if times.length = 7 ∧ times.all closingTimeOk = true then
    finishing (fun t =>
      defined true (times.flatMap (optLE 2)) (armAgain { t with cfg := { t.cfg with times := tabOf 7 times } })) s
  else (s, .now .badValue [])

/-- R171: what a DEFINE STEP puts into its slot; none for a value out of range. -/
def slotOf (x : Option StepReq) : Option (Option ClosingStep) :=
  match x with
  | none => some none
  | some v => (stepOf v).map some

/-- The slot now in force: its number, then whether it holds a step, and the step. -/
def slotBytes (k : Nat) (x : Option ClosingStep) : List Byte :=
  bytesLE 1 k ++ flagByte x.isSome ++ (x.map stepBytes).getD []

/-- DEFINE STEP (R171). -/
def ownDefineStep (k : Nat) (x : Option StepReq) : Owner := fun s =>
  if programmeRuns s then (s, .now .wrongState [])
  else
    match if k < 16 then slotOf x else none with
    | none => (s, .now .badValue [])
    | some y =>
      let steps := s.cfg.steps.put k y
      if offsetsOrdered steps.items then
        finishing (fun t =>
          defined (x.all stepUnclamped) (slotBytes k y) (armAgain { t with cfg := { t.cfg with steps } })) s
      else (s, .now .badValue [])

/-- CLOSING START (R183). -/
def ownClosingStart : Owner := fun s =>
  if s.fire.latch then (s, .now .fireMode [])
  else
    match definedSlots s with
    | [] => (s, .now .wrongState [])
    | k :: _ =>
      if !s.clock.isSet || programmeRuns s then (s, .now .wrongState [])
      else
        finishing (fun t =>
          let u := modProg (fun p => { p with
            day := some t.clock.weekday
            delay := 0
            results := Tab.fill 16 .notReached
            pastMidnight := false
            reference := (t.clock.seconds : Int) - 60 * ((stepDef t k).map ClosingStep.offset).getD 0 }) t
          (startProgramme 1 u, .now .done (dueBytes (some u.prog.reference) ++ dueBytes (lastDue u)))) s

/-- The due time of the next step; the start due time in ARMED. -/
def nextDue (s : State) : Option Int := if s.prog.st = .armed then startDue s else s.prog.next.bind (slotDue s)

/-- CLOSING DELAY (R182). -/
def ownClosingDelay (minutes : Nat) : Owner := fun s =>
  match s.prog.st with
  | .idle | .complete | .aborted => (s, .now .wrongState [])
  | .armed | .running | .held =>
    let m := clamp 1 60 minutes
    let total := min 60 (s.prog.delay + m)
    finishing (fun t =>
      let u := modProg (fun p => { p with delay := total }) t
      (startTest u, .now (if m = minutes ∧ total = s.prog.delay + m then .done else .clamped)
        (bytesLE 1 total ++ dueBytes (nextDue u)))) s

/-- CLOSING ABORT (R184). -/
def ownClosingAbort : Owner := fun s =>
  if programmeRuns s then finishing (fun t => (settleEnd (abortProgramme .host t), .now .done [])) s
  else (s, .now .wrongState [])

/-! ### QUERY CLOSING (R186) -/

/-- A watched shutter with its mark: PENDING 0, ENDED 1, ENDED with the shutter CLOSED 2 (log entry 9). -/
def watchBytes (p : Nat × WatchMark) : List Byte :=
  bytesLE 1 p.1 ++ (match p.2 with
    | .pending => [0#8]
    | .ended false => [1#8]
    | .ended true => [2#8])

/-- What a result record that is DONE keeps. -/
def DoneInfo.bytes : DoneInfo → List Byte
  | .announced h => bytesLE 1 h
  | .strokes ls => bytesLE 1 ls.length ++ ls.flatMap (fun p => bytesLE 1 p.1 ++ bytesLE 1 p.2.code)
  | .locked ls => [ls]
  | .drained => []
  | .loopAt st => bytesLE 1 st.code
  | .shutters p q r c => setBytes 3 p ++ setBytes 3 q ++ setBytes 3 r ++ setBytes 3 c

/-- A result record: its code, then what it keeps (log entry 87). The byte after the reason STALE, which keeps nothing, is 0
(DESIGN CHOICE, log entry 86). -/
def StepResult.bytes : StepResult → List Byte
  | .notReached => [0#8]
  | .done i => 1#8 :: i.bytes
  | .skipped r => 2#8 :: (bytesLE 1 r.code ++ bytesLE 1 r.info)
  | .timedOut (.loopAt st) => 3#8 :: bytesLE 1 st.code
  | .timedOut (.pendingShutters ids) => 3#8 :: setBytes 3 ids
  | .aborted => [4#8]

/-- R186: the entry of a slot. -/
def slotEntry (s : State) (k : Nat) : List Byte :=
  slotBytes k (stepDef s k) ++ dueBytes (slotDue s k) ++ (s.prog.results.get k).bytes

/-- R186: the held slot, the time left on its hold timer, and its watch. -/
def holdBytes (s : State) : List Byte :=
  optLE 1 (if s.prog.st = .held then s.prog.next else none) ++ optLE 3 (remaining s s.prog.hold)
    ++ (match s.prog.watch with
        | none => [0#8]
        | some w => bytesLE 1 w.shutters.length ++ w.shutters.flatMap watchBytes)

/-- R186: the payload of QUERY CLOSING. -/
def queryClosingPayload (s : State) (first : Nat) : List Byte :=
  clockBytes s.clock ++ s.cfg.times.items.flatMap (optLE 2) ++ bytesLE 1 s.prog.st.code ++ optLE 1 s.prog.day
    ++ signedLE 3 s.prog.reference ++ bytesLE 1 s.prog.delay
    ++ dueBytes (if s.prog.st = .armed then startDue s else none) ++ optLE 1 s.prog.next
    ++ dueBytes (s.prog.next.bind (slotDue s)) ++ holdBytes s
    ++ (((List.range 16).drop first).take 4).flatMap (slotEntry s)

/-- QUERY CLOSING (R186). -/
def ownQueryClosing (first : Nat) : Owner := fun s =>
  if first < 16 then (s, .now .done (queryClosingPayload s first)) else (s, .now .badValue [])

/-! ### Requests -/

def reqSetClock (tag : Byte) (c w : Nat) : State → State := request 0x05#8 tag (ownSetClock c w)
def reqDefineClosingTimes (tag : Byte) (ts : List (Option Nat)) : State → State :=
  request 0x50#8 tag (ownDefineClosingTimes ts)
def reqDefineStep (tag : Byte) (k : Nat) (x : Option StepReq) : State → State := request 0x51#8 tag (ownDefineStep k x)
def reqClosingStart (tag : Byte) : State → State := request 0x52#8 tag ownClosingStart
def reqClosingDelay (tag : Byte) (m : Nat) : State → State := request 0x53#8 tag (ownClosingDelay m)
def reqClosingAbort (tag : Byte) : State → State := request 0x54#8 tag ownClosingAbort
def reqQueryClosing (tag : Byte) (k : Nat) : State → State := request 0x55#8 tag (ownQueryClosing k)

/-- R168: a second tick arises while the clock is SET. -/
def tick (s : State) : State :=
  if s.clock.isSet then secondTick (advanceTo s.clock.tickDue s) else s

/-! ### Meanings -/

/-- SET_CLOCK (R169). -/
def execSetClock (tag : Byte) (seconds weekday : Nat) (s : State) : Host.Outcome State Fault Refusal :=
  .next (reqSetClock tag seconds weekday (stamp s))

/-- DEFINE_CLOSING_TIMES (R170). -/
def execDefineClosingTimes (tag : Byte) (times : List (Option Nat)) (s : State) : Host.Outcome State Fault Refusal :=
  .next (reqDefineClosingTimes tag times (stamp s))

/-- DEFINE_STEP (R171). -/
def execDefineStep (tag : Byte) (slot : Nat) (x : Option StepReq) (s : State) : Host.Outcome State Fault Refusal :=
  .next (reqDefineStep tag slot x (stamp s))

/-- CLOSING_START (R183). -/
def execClosingStart (tag : Byte) (s : State) : Host.Outcome State Fault Refusal :=
  .next (reqClosingStart tag (stamp s))

/-- CLOSING_DELAY (R182). -/
def execClosingDelay (tag : Byte) (minutes : Nat) (s : State) : Host.Outcome State Fault Refusal :=
  .next (reqClosingDelay tag minutes (stamp s))

/-- CLOSING_ABORT (R184). -/
def execClosingAbort (tag : Byte) (s : State) : Host.Outcome State Fault Refusal :=
  .next (reqClosingAbort tag (stamp s))

/-- QUERY_CLOSING (R186). -/
def execQueryClosing (tag : Byte) (first : Nat) (s : State) : Host.Outcome State Fault Refusal :=
  .next (reqQueryClosing tag first (stamp s))

/-- SECOND_TICK (R168). -/
def execSecondTick (s : State) : Host.Outcome State Fault Refusal := .next (finish (tick (stamp s)))

/-- HOLD_TIMER (R179). -/
def execHoldTimer (s : State) : Host.Outcome State Fault Refusal :=
  .next (finish (expire s.prog.hold holdExpired (stamp s)))

end Sys2Proof.Machine
end

