-- ==== Sys2Proof/Machine/FireCommands.lean ====
section
/-! DEFINITION. The commands of the Fire Zone Monitor and the sense converter (chapter 3), and of the field scan
(chapter 11). -/

namespace Sys2Proof.Machine

/-- R56: the live record after an accepted DEFINE ZONE. -/
def redefinedZone (x : Zone) (enable : Bool) : Zone :=
  { x with
    run := none
    st := if enable then (if x.st = .disabled then .normal else x.st) else .disabled }

/-- DEFINE ZONE (R55). -/
def ownDefineZone (z : Nat) (v : ZoneReq) : Owner := fun s =>
  let d := clampZone v
  if z < 8 ∧ zoneReqOk v = true ∧ zoneGapsOk d = true then
    if !d.enable && (zoneAt s z).st == .alarm then (s, .now .wrongState [])
    else
      defined (d.h == v.h && d.k == v.k) (zoneBytes d)
        (setZone z (redefinedZone (zoneAt s z) d.enable) { s with cfg := { s.cfg with zones := s.cfg.zones.put z d } })
  else (s, .now .badValue [])

/-- A confirmation run: its band and its length; 0xFF bytes when it is empty (log entry 87). -/
def runBytes : Option (Band × Nat) → List Byte
  | none => [0xFF#8, 0xFF#8]
  | some (b, n) => bytesLE 1 b.code ++ bytesLE 1 n

/-- R67: the entry of zone `z`. -/
def zoneEntry (s : State) (z : Nat) : List Byte :=
  zoneBytes (zoneDef s z) ++ bytesLE 1 (zoneAt s z).st.code ++ runBytes (zoneAt s z).run
    ++ optLE 2 (zoneAt s z).latest ++ flagByte (s.fire.alarmed.getLsbD z)

/-- QUERY ZONES (R67). -/
def ownQueryZones : Owner := fun s =>
  (s, .now .done (flagByte s.fire.latch ++ [s.fire.alarmed] ++ (List.range 8).flatMap (zoneEntry s)))

/-- FIRE RESET (R64). -/
def ownFireReset : Owner := fun s =>
  match alarmZone s with
  | some z => (s, .now .wrongState (bytesLE 1 z))
  | none => if s.fire.latch then finishing (fun t => (clearLatch t, .now .done [])) s else (s, .now .done [])

def reqDefineZone (tag : Byte) (z : Nat) (v : ZoneReq) : State → State := request 0x20#8 tag (ownDefineZone z v)
def reqQueryZones (tag : Byte) : State → State := request 0x21#8 tag ownQueryZones
def reqFireReset (tag : Byte) : State → State := request 0x22#8 tag ownFireReset

/-- R54: a conversion of the channel whose turn it is. -/
def conversion (v : Nat) (s : State) : State :=
  let ch := s.fire.channel
  let t := modFire (fun r => { r with channel := (r.channel + 1) % 12 })
    { s with time := { s.time with now := max s.time.now s.time.convDue, convDue := s.time.convDue + 2 } }
  if ch < 8 then zoneSample ch v t else currentReading (ch - 8) v t

/-- The scan event with its time: scans follow one another every 4 ms (R205). -/
def scanEvent (v : BitVec 256) (check : BitVec 16) (s : State) : State :=
  scanDone v check { s with time := { s.time with now := max s.time.now s.time.scanDue, scanDue := s.time.scanDue + 4 } }

/-- DEFINE_ZONE (R55). -/
def execDefineZone (tag : Byte) (z : Nat) (v : ZoneReq) (s : State) : Host.Outcome State Fault Refusal :=
  .next (reqDefineZone tag z v (stamp s))

/-- QUERY_ZONES (R67). -/
def execQueryZones (tag : Byte) (s : State) : Host.Outcome State Fault Refusal := .next (reqQueryZones tag (stamp s))

/-- FIRE_RESET (R64). -/
def execFireReset (tag : Byte) (s : State) : Host.Outcome State Fault Refusal := .next (reqFireReset tag (stamp s))

/-- SCAN_EVENT (R205). -/
def execScanEvent (inputs : BitVec 256) (check : BitVec 16) (s : State) : Host.Outcome State Fault Refusal :=
  .next (scanEvent inputs check (stamp s))

/-- CONVERSION_COMPLETE (R54). -/
def execConversionComplete (reading : BitVec 10) (s : State) : Host.Outcome State Fault Refusal :=
  .next (finish (conversion reading.toNat (stamp s)))

end Sys2Proof.Machine
end

