-- ==== Sys2Proof/Machine/LoopCommands.lean ====
section
/-! DEFINITION. The commands of the Loop Controller: the requests and the pulse and timer events of chapters 1 and 2. -/

namespace Sys2Proof.Machine

/-! ### Geometry (R1, R2, R3, R6) -/

/-- R1: the geometry after DEFINE LOOP: openings are kept only where N is unchanged and the landing stays. -/
def Geometry.withDims (g : Geometry) (d : Dims) : Geometry :=
  { dims := some d
    openings := Tab.make 16 (fun o => if g.cars = d.n ∧ o < 2 * d.l then g.openings.get o else none) }

/-- R2: the geometry after DEFINE OPENING. -/
def Geometry.withOpening (g : Geometry) (o : Nat) (x : Opening) : Geometry :=
  { g with openings := g.openings.put o (some x) }

/-- R3, R6: the state gate and the clear-list test, then the geometry change. -/
def newGeometry (g : Geometry) : Owner := fun s =>
  if !geometryGate s then (s, .now .wrongState [])
  else if g.noStop then (s, .now .badValue [])
  else finishing (fun t => defined true [] (geometryChange g t)) s

/-- DEFINE LOOP (R1). -/
def ownDefineLoop (n l wMin : Nat) : Owner := fun s =>
  if dimsOk { n, l, wMin } then newGeometry (s.cfg.geom.withDims { n, l, wMin }) s else (s, .now .badValue [])

/-- DEFINE OPENING (R2). -/
def ownDefineOpening (o sill below above : Nat) : Owner := fun s =>
  if s.cfg.geom.dims.isNone then (s, .now .wrongState [])
  else if openingOk s.cfg.geom o { sill, below, above } then
    newGeometry (s.cfg.geom.withOpening o { sill, below, above }) s
  else (s, .now .badValue [])

/-- DEFINE LOOP TIMING (R27). -/
def ownDefineLoopTiming (v : LoopTiming) : Owner := fun s =>
  let w := clampTiming v
  if timingOrdered w then
    defined (w == v) (timingBytes w) { s with cfg := { s.cfg with timing := w } }
  else (s, .now .badValue [])

/-! ### Start, drain, stop, creep (R32 to R35) -/

/-- R32: a landing stop button of landings 0 to L−1 or a turn flap is active. -/
def stopInputActive (s : State) : Bool :=
  (List.range (min 8 s.cfg.geom.landings)).any (fun l => active s (buttonPoint l)) || active s topFlapPoint
    || active s bottomFlapPoint

/-- R32: the RUN contactor closes. -/
def closeRun (s : State) : State :=
  closeContactor s.cfg.timing.tStart (modLoop (fun x => { x with attempts := 0 }) s)

/-- R32: UNREFERENCED to REFERENCING. -/
def enterReferencing (s : State) : State :=
  enterState .referencing (modLoop (fun x => { x with
    refPitch := 0, refStop := .none, fireDrainPending := false, drain := none, drainTimer := none }) (closeRun s))

/-- R32: the OPENING shutters are tested, then `f` is done. -/
def testedStart (f : State → State) : Owner := fun s =>
  match openingShutterFails s with
  | some i => (s, .now .wrongState (bytesLE 1 i))
  | none => finishing (fun t => (f t, .now .done [])) s

/-- R32: the start from rest, which a stop input or FIELD_LOST bars. -/
def startFromRest (f : State → State) : Owner := fun s =>
  if stopInputActive s || s.field.lost then (s, .now .wrongState []) else testedStart f s

/-- LOOP START (R32). -/
def ownLoopStart : Owner := fun s =>
  if s.fire.latch then (s, .now .fireMode [])
  else
    match s.loop.st with
    | .braking | .creeping | .faultStop | .unconfigured => (s, .now .wrongState [])
    | .running | .starting | .referencing => (s, .now .done [])
    | .unreferenced => startFromRest enterReferencing s
    | .parked | .stoppedFoul => startFromRest (fun t => enterState .starting (closeRun t)) s
    | .draining | .stopping => testedStart enterRunning s

/-- LOOP DRAIN (R33). -/
def ownLoopDrain : Owner := fun s =>
  match takeDrain s with
  | (t, true) => (if s.loop.st = .running then finish t else t, .now .done [])
  | (_, false) => (s, .now .wrongState [])

/-- LOOP STOP (R34). -/
def ownLoopStop (force : Nat) : Owner :=
  if force ≤ 1 then finishing (fun s => (takeStop (force == 1) s, .now .done [])) else refuse .badValue []

/-- LOOP CREEP (R35). -/
def ownLoopCreep : Owner := fun s =>
  if s.loop.st = .stoppedFoul then
    testedStart (fun t => beginCreep (modLoop (fun x => { x with attempts := 0 }) t)) s
  else (s, .now .wrongState [])

/-- R20: the lockout flags of the landings `ls` become `v`. -/
def setLockouts (ls : List Nat) (v : Bool) (s : State) : State :=
  modLoop (fun x => { x with lockout := ls.foldl (fun t l => t.put l v) x.lockout }) s

/-- LANDING LOCKOUT (R20). A setting byte other than UNLOCK 0 and LOCK 1 is refused with BAD_VALUE, after the test of L
(DESIGN CHOICE, log entry 48). -/
def ownLandingLockout (landing : Member) (setting : Nat) : Owner := fun s =>
  if s.cfg.geom.dims.isNone then (s, .now .wrongState [])
  else
    match landing with
    | .one l =>
      if l < s.cfg.geom.landings ∧ setting ≤ 1 then (setLockouts [l] (setting == 1) s, .now .done [])
      else (s, .now .badValue [])
    | .all =>
      if setting ≤ 1 then (setLockouts (List.range s.cfg.geom.landings) (setting == 1) s, .now .done [])
      else (s, .now .badValue [])

/-- R51: CLEAR FAULTS with target LOOP. -/
def clearLoopFault : Owner := fun s =>
  if s.loop.st = .faultStop then
    if s.loop.standstill && !stopInputActive s && !s.field.lost then
      finishing (fun t => (enterState .unreferenced (modLoop (fun x => { x with fault := none }) t), .now .done [])) s
    else (s, .now .wrongState [])
  else (s, .now .done [])

/-! ### Queries (R22 to R24) -/

/-- The stop plan as QUERY LOOP reports it in STOPPING and BRAKING (R43). -/
def planBytes : Option StopPlan → List Byte
  | none => List.replicate 9 0xFF#8
  | some p =>
    bytesLE 2 p.speed ++ bytesLE 2 p.braking ++ bytesLE 1 p.targetPhase ++ bytesLE 2 p.target ++ bytesLE 2 p.command

/-- R22: the payload of QUERY LOOP. The defined openings are a set, and no stop error is −32768 (DESIGN CHOICE, log entry
87). -/
def queryLoopPayload (s : State) : List Byte :=
  let g := s.cfg.geom
  bytesLE 1 s.loop.st.code ++ flagByte s.loop.refValid ++ bytesLE 2 s.loop.c ++ bytesLE 1 (phase s)
    ++ optLE 1 (g.dims.map Dims.n) ++ optLE 1 (g.dims.map Dims.l) ++ optLE 1 (g.dims.map Dims.wMin) ++ flagByte g.valid
    ++ listBytes g.clearList ++ setBytes 2 ((List.range 16).filter (fun o => (g.openings.get o).isSome))
    ++ bytesLE 1 s.cfg.timing.pTol ++ optLE 2 s.loop.interval ++ bytesLE 2 (stopErrorDetail s.loop.lastError)
    ++ optLE 1 (s.loop.fault.map (fun f => f.cause.code)) ++ optLE 1 (s.loop.fault.bind LoopFaultRec.subject)
    ++ flagByte s.loop.standstill
    ++ (match s.loop.st, s.loop.drain with
        | .draining, some d => flagByte d.stopPending ++ flagByte d.drained ++ bytesLE 1 d.revs
        | _, _ => [0xFF#8, 0xFF#8, 0xFF#8])
    ++ bytesLE 1 s.loop.attempts ++ flagByte (settled s)
    ++ planBytes (if s.loop.st = .stopping ∨ s.loop.st = .braking then s.loop.plan else none)

/-- QUERY LOOP (R22). -/
def ownQueryLoop : Owner := fun s => (s, .now .done (queryLoopPayload s))

/-- R23: the entry of car `k`. -/
def carBytes (s : State) (k : Nat) : List Byte :=
  bytesLE 1 k ++ bytesLE 1 (s.loop.cars.getD k .unknown).code
    ++ optLE 2 (if s.loop.refValid then some ((s.loop.c + 256 * k) % s.cfg.geom.length) else none)
    ++ optLE 1 (occupyingOpening s k)

/-- QUERY CARS (R23). -/
def ownQueryCars : Owner := fun s =>
  match s.cfg.geom.dims with
  | none => (s, .now .wrongState [])
  | some d => (s, .now .done (bytesLE 1 d.n ++ (List.range d.n).flatMap (carBytes s)))

/-- R24: the entry of an opening. Its lamp state is GO 1 or NO_BOARD 0 (DESIGN CHOICE, log entry 75); its computed state is
CLEAR 0, OCCUPIED 1 with the car, or UNKNOWN 2 (log entry 9). -/
def openingBytes (s : State) (o : Nat) : List Byte :=
  let x := s.cfg.geom.openings.get o
  flagByte x.isSome ++ optLE 2 (x.map Opening.sill) ++ optLE 1 (x.map Opening.below) ++ optLE 1 (x.map Opening.above)
    ++ flagByte (lampGo s o) ++ acceptedByte (acceptedAt s (sillPoint o)) ++ bytesLE 1 (s.loop.watches.get o).code
    ++ bytesLE 1 (s.loop.recognisers.get o).code
    ++ (if s.loop.refValid && x.isSome then
          match occupantOf s o with
          | some k => bytesLE 1 1 ++ bytesLE 1 k
          | none => [0#8, 0xFF#8]
        else [2#8, 0xFF#8])

/-- QUERY LANDING (R24). -/
def ownQueryLanding (landing : Member) : Owner := fun s =>
  match landing with
  | .all => (s, .now .scopeNotSingle [])
  | .one l =>
    if l < s.cfg.geom.landings then
      (s, .now .done (bytesLE 1 l ++ flagByte (s.loop.lockout.get l) ++ acceptedByte (acceptedAt s (buttonPoint l))
        ++ openingBytes s (2 * l) ++ openingBytes s (2 * l + 1)))
    else (s, .now .badValue [])

/-! ### Requests -/

def reqDefineLoop (tag : Byte) (n l w : Nat) : State → State := request 0x10#8 tag (ownDefineLoop n l w)
def reqDefineOpening (tag : Byte) (o sill below above : Nat) : State → State :=
  request 0x11#8 tag (ownDefineOpening o sill below above)
def reqDefineLoopTiming (tag : Byte) (v : LoopTiming) : State → State := request 0x12#8 tag (ownDefineLoopTiming v)
def reqLoopStart (tag : Byte) : State → State := request 0x13#8 tag ownLoopStart
def reqLoopDrain (tag : Byte) : State → State := request 0x14#8 tag ownLoopDrain
def reqLoopStop (tag : Byte) (force : Nat) : State → State := request 0x15#8 tag (ownLoopStop force)
def reqLoopCreep (tag : Byte) : State → State := request 0x16#8 tag ownLoopCreep
def reqLandingLockout (tag : Byte) (l : Member) (x : Nat) : State → State := request 0x17#8 tag (ownLandingLockout l x)
def reqQueryLoop (tag : Byte) : State → State := request 0x18#8 tag ownQueryLoop
def reqQueryCars (tag : Byte) : State → State := request 0x19#8 tag ownQueryCars
def reqQueryLanding (tag : Byte) (l : Member) : State → State := request 0x1A#8 tag (ownQueryLanding l)

/-! ### Pulses (R7, R9 to R11, R14, R28 to R30, R37, R38, R40, R44, R46, R48) -/

/-- R7, R28: the chain position advances and standstill is no longer confirmed. -/
def advanceChain (s : State) : State :=
  let t := modLoop (fun x => { x with
    c := if s.cfg.geom.dims.isSome then (x.c + 1) % s.cfg.geom.length else 0
    standstill := false
    standTimer := some (inMs s s.cfg.timing.standstill) }) s
  if s.loop.standstill && s.loop.st == .faultStop then reexamine t else t

/-- R7: a count pulse. The order of what it brings is the model's (DESIGN CHOICE, log entry 46): all the sill watches in
ascending opening number, then the drain, the stop command, the creep and the drift. -/
def countPulse (s : State) : State :=
  let t := advanceChain s
  let u := forEach t.cfg.geom.watched (fun p v => advanceWatch p.1 p.2 v) t
  checkDrift (checkCreep (checkCommand (drainPulse u)))

/-- R9: a pitch pulse in REFERENCING with the reference NONE. -/
def countReferencing (s : State) : State :=
  if s.loop.st = .referencing ∧ s.loop.refValid = false then
    let t := modLoop (fun x => { x with refPitch := x.refPitch + 1 }) s
    if s.loop.refPitch + 1 = s.cfg.geom.cars + 2 then loopFault .datumMissing none t else t
  else s

/-- R10: a pitch pulse with the reference VALID: the chain position it resynchronises to, none for PITCH_SLIP. -/
def resyncTo (s : State) : Option Nat :=
  let tol := s.cfg.timing.pTol
  let p := phase s
  if p ≤ tol then some (s.loop.c - p)
  else if 256 - tol ≤ p then some ((s.loop.c - p + 256) % s.cfg.geom.length)
  else none

/-- R10: the pitch check. -/
def pitchCheck (s : State) : State :=
  if s.loop.refValid then
    match resyncTo s with
    | some c => modLoop (fun x => { x with c }) s
    | none => loopFault .pitchSlip none s
  else s

/-- R30: the lower and upper bound of the window of the closed contactor. -/
def windowBounds (s : State) : Nat × Nat :=
  if creepClosed s then (s.cfg.timing.tcMin, s.cfg.timing.tcMax) else (s.cfg.timing.tMin, s.cfg.timing.tMax)

/-- R29: the interval that a pitch pulse now ends, in ms and at most 65535. -/
def pitchInterval (s : State) : Option Nat := s.loop.lastPitch.map (fun t => min 65535 (s.time.now - t))

/-- R29: the pitch interval measurement. -/
def measurePitch (s : State) : State :=
  modLoop (fun x => { x with
    interval := match pitchInterval s with
      | some d => some d
      | none => x.interval
    lastPitch := some s.time.now
    closing := min 2 (x.closing + 1) }) s

/-- R29, R30: the measurement, and the window supervision while a contactor is closed. -/
def superviseWindow (s : State) : State :=
  let t := measurePitch s
  if contactorClosed s then
    if 1 ≤ s.loop.closing ∧ (pitchInterval s).getD 65535 < (windowBounds s).1 then loopFault .overspeed none t
    else modLoop (fun x => { x with window := some (inMs s (windowBounds s).2) }) t
  else t

/-- R38: a good first pitch pulse takes STARTING to RUNNING. -/
def startedAtPitch (s : State) : State := if s.loop.st = .starting then enterRunning s else s

/-- R9, R10, R29, R30, R38, R44, R48: a pitch pulse. R9 is taken before R30, and R10 before R30: a pulse that brings the
referencing count to N+2 and is early too raises DATUM_MISSING and no OVERSPEED (DESIGN CHOICE, log entries 18 and 74). R30
is taken before the commands of R44 and R48: a pulse that brings c to a command position and is early too raises OVERSPEED,
and no command is given (DESIGN CHOICE, log entry 81). -/
def pitchPulse (s : State) : State :=
  checkDrift (checkCreep (checkCommand (startedAtPitch (superviseWindow (pitchCheck (countReferencing s))))))

/-- R37: the datum has been found: the loop leaves REFERENCING by its stop request. -/
def datumFound (s : State) : State :=
  let t := queueEvent .referenced none 0 (modLoop (fun x => { x with c := 0, refValid := true }) s)
  match s.loop.refStop with
  | .none => enterRunning t
  | .drain => enterDraining s.loop.fireDrainPending true t
  | .stop => enterStopping t

/-- R8, R11: a datum pulse. -/
def datumPulse (s : State) : State :=
  if s.loop.refValid then
    if min s.loop.c (s.cfg.geom.length - s.loop.c) ≤ s.cfg.timing.pTol then
      checkDrift (modLoop (fun x => { x with c := 0 }) s)
    else loopFault .datumSlip none s
  else if s.loop.st = .referencing then datumFound s
  else s

/-! ### Timers (R28, R31, R42, R45, R47) -/

/-- R28: standstill is confirmed. -/
def confirmStandstill (s : State) : State :=
  let t := modLoop (fun x => { x with standstill := true, standTimer := none }) s
  match s.loop.st with
  | .braking => stopVerdict t
  | .faultStop => reexamine t
  | _ => t

/-- R31: the window timer has expired. -/
def windowExpired (s : State) : State :=
  let t := modLoop (fun x => { x with window := none }) s
  if runClosed s then loopFault (if s.loop.closing = 0 then .startTimeout else .stall) none t
  else if creepClosed s then loopFault .stall none t
  else t

/-- R42: the drain timer has expired. -/
def drainExpired (s : State) : State :=
  let t := modLoop (fun x => { x with drainTimer := none }) s
  match s.loop.st, s.loop.drain with
  | .draining, some d =>
    let u := queueEvent .drainTimeout none (carsNotEmpty s) t
    if d.fire then enterStopping u else u
  | .referencing, _ =>
    modLoop (fun x => { x with refStop := .stop }) (queueEvent .drainTimeout none s.cfg.geom.cars t)
  | _, _ => t

/-- R47: the creep delay has expired. -/
def creepDelayExpired (s : State) : State :=
  let t := modLoop (fun x => { x with creepDelay := none }) s
  if s.loop.st = .stoppedFoul then
    match openingShutterFails t with
    | some i =>
      reexamine (queueEvent .creepExhausted (some i) s.loop.attempts (modLoop (fun x => { x with exhausted := true }) t))
    | none => beginCreep t
  else t

/-! ### Meanings -/

/-- DEFINE_LOOP (R1). -/
def execDefineLoop (tag : Byte) (n l wMin : Nat) (s : State) : Host.Outcome State Fault Refusal :=
  .next (reqDefineLoop tag n l wMin (stamp s))

/-- DEFINE_OPENING (R2). -/
def execDefineOpening (tag : Byte) (o sill below above : Nat) (s : State) : Host.Outcome State Fault Refusal :=
  .next (reqDefineOpening tag o sill below above (stamp s))

/-- DEFINE_LOOP_TIMING (R27). -/
def execDefineLoopTiming (tag : Byte) (v : LoopTiming) (s : State) : Host.Outcome State Fault Refusal :=
  .next (reqDefineLoopTiming tag v (stamp s))

/-- LOOP_START (R32). -/
def execLoopStart (tag : Byte) (s : State) : Host.Outcome State Fault Refusal := .next (reqLoopStart tag (stamp s))

/-- LOOP_DRAIN (R33). -/
def execLoopDrain (tag : Byte) (s : State) : Host.Outcome State Fault Refusal := .next (reqLoopDrain tag (stamp s))

/-- LOOP_STOP (R34). -/
def execLoopStop (tag : Byte) (force : Nat) (s : State) : Host.Outcome State Fault Refusal :=
  .next (reqLoopStop tag force (stamp s))

/-- LOOP_CREEP (R35). -/
def execLoopCreep (tag : Byte) (s : State) : Host.Outcome State Fault Refusal := .next (reqLoopCreep tag (stamp s))

/-- LANDING_LOCKOUT (R20). -/
def execLandingLockout (tag : Byte) (landing : Member) (setting : Nat) (s : State) :
    Host.Outcome State Fault Refusal := .next (reqLandingLockout tag landing setting (stamp s))

/-- QUERY_LOOP (R22). -/
def execQueryLoop (tag : Byte) (s : State) : Host.Outcome State Fault Refusal := .next (reqQueryLoop tag (stamp s))

/-- QUERY_CARS (R23). -/
def execQueryCars (tag : Byte) (s : State) : Host.Outcome State Fault Refusal := .next (reqQueryCars tag (stamp s))

/-- QUERY_LANDING (R24). -/
def execQueryLanding (tag : Byte) (landing : Member) (s : State) : Host.Outcome State Fault Refusal :=
  .next (reqQueryLanding tag landing (stamp s))

/-- COUNT_PULSE (R7). -/
def execCountPulse (s : State) : Host.Outcome State Fault Refusal := .next (finish (countPulse (stamp s)))

/-- PITCH_PULSE (R10). -/
def execPitchPulse (s : State) : Host.Outcome State Fault Refusal := .next (finish (pitchPulse (stamp s)))

/-- DATUM_PULSE (R11). -/
def execDatumPulse (s : State) : Host.Outcome State Fault Refusal := .next (finish (datumPulse (stamp s)))

/-- STANDSTILL_TIMER (R28). -/
def execStandstillTimer (s : State) : Host.Outcome State Fault Refusal :=
  .next (finish (expire s.loop.standTimer confirmStandstill (stamp s)))

/-- WINDOW_TIMER (R31). -/
def execWindowTimer (s : State) : Host.Outcome State Fault Refusal :=
  .next (finish (expire s.loop.window windowExpired (stamp s)))

/-- DRAIN_TIMER (R42). -/
def execDrainTimer (s : State) : Host.Outcome State Fault Refusal :=
  .next (finish (expire s.loop.drainTimer drainExpired (stamp s)))

/-- CREEP_DELAY_TIMER (R47). -/
def execCreepDelayTimer (s : State) : Host.Outcome State Fault Refusal :=
  .next (finish (expire s.loop.creepDelay creepDelayExpired (stamp s)))

end Sys2Proof.Machine
end

