-- ==== Sys2Proof/Machine/PhraseCommands.lean ====
section
/-! DEFINITION. The commands of the Phrase Store and the Announcement Controller: the requests and the transfer, block, gap
and sample events of chapters 7 and 8. -/

namespace Sys2Proof.Machine

/-! ### Phrases (R141, R143, R145, R147, R151) -/

/-- R141: what a WRONG_STATE of PHRASE OPEN gives: the state and, when LOADING, the length and the bytes received. -/
def openRefusal : Phrase → List Byte
  | .empty => bytesLE 1 (Phrase.code .empty)
  | .loading n got => bytesLE 1 1 ++ bytesLE 3 n ++ bytesLE 3 got
  | .ready _ _ => bytesLE 1 2

/-- PHRASE OPEN (R141). -/
def ownPhraseOpen (p length : Nat) : Owner := fun s =>
  if p < 64 ∧ within 1 1044480 length = true then
    match phraseAt s p with
    | .empty =>
      let need := pagesNeeded length
      let free := (freePages s).length
      if free < need then (s, .now .noSpace (bytesLE 1 need ++ bytesLE 1 free))
      else
        let t := setPhrase p (.loading length 0) (allocate p need s)
        (startDirectoryWrite (.directory (bytesLE 1 need ++ bytesLE 1 ((pageList t p).headD 0))) t, .later)
    | x => (s, .now .wrongState (openRefusal x))
  else (s, .now .badValue [])

/-- PHRASE DATA (R143). -/
def ownPhraseData (p offset : Nat) (data : List Byte) : Owner := fun s =>
  if p < 64 ∧ within 1 224 data.length = true then
    match phraseAt s p with
    | .loading n got =>
      if offset ≠ got then (s, .now .outOfOrder (bytesLE 3 got))
      else if n < offset + data.length then (s, .now .badValue (bytesLE 3 n ++ bytesLE 3 got))
      else (startStream (.data p data.length) (dataChunks s p offset data) s, .later)
    | x => (s, .now .wrongState (bytesLE 1 x.code))
  else (s, .now .badValue [])

/-- PHRASE CLOSE (R145). -/
def ownPhraseClose (p : Nat) : Owner := fun s =>
  if p < 64 then
    match phraseAt s p with
    | .empty => (s, .now .wrongState [])
    | .ready _ _ => (s, .now .done [])
    | .loading n got =>
      if got < n then (s, .now .notReady (bytesLE 3 n ++ bytesLE 3 got))
      else
        (startDirectoryWrite (.directoryReady p (bytesLE 3 n ++ bytesLE 1 (pageList s p).length))
          (setPhrase p (.ready n 0) s), .later)
  else (s, .now .badValue [])

/-- R147: the phrase becomes EMPTY, its pages FREE, and the directory is written. -/
def deletePhrase (p : Nat) (s : State) : State :=
  startDirectoryWrite (.directory (bytesLE 1 (pageList s p).length)) (setPhrase p .empty (freePhrase p s))

/-- PHRASE DELETE (R147). -/
def ownPhraseDelete (p : Nat) : Owner := fun s =>
  if p < 64 then
    match phraseAt s p with
    | .empty => (s, .now .done (bytesLE 1 0))
    | .loading _ _ => (deletePhrase p s, .later)
    | .ready _ use => if 0 < use then (s, .now .inUse (bytesLE 1 use)) else (deletePhrase p s, .later)
  else (s, .now .badValue [])

/-- R151: the record of phrase `p`: bytes of 0xFF stand for what is absent. -/
def phraseRecord (s : State) (p : Nat) : List Byte :=
  let pages := pageList s p
  bytesLE 1 p ++ bytesLE 1 (phraseAt s p).code ++
  match phraseAt s p with
  | .empty => List.replicate 9 0xFF#8
  | .loading n got => bytesLE 3 n ++ bytesLE 3 got ++ bytesLE 1 pages.length ++ bytesLE 1 (pages.headD 0) ++ [0xFF#8]
  | .ready n use =>
    bytesLE 3 n ++ List.replicate 3 0xFF#8 ++ bytesLE 1 pages.length ++ bytesLE 1 (pages.headD 0) ++ bytesLE 1 use

/-- QUERY PHRASES (R151). The records have no count byte before them: the first id fixes their number (DESIGN CHOICE, log
entry 83). -/
def ownQueryPhrases (first : Nat) : Owner := fun s =>
  if first < 64 then
    let free := (freePages s).length
    (s, .now .done (bytesLE 1 free ++ bytesLE 1 (255 - free) ++ bytesLE 1 s.phrases.dir.code
      ++ (((List.range 64).drop first).take 16).flatMap (phraseRecord s)))
  else (s, .now .badValue [])

/-! ### Announcements (R156, R164, R165, R167) -/

/-- DEFINE EVACUATION (R165). -/
def ownDefineEvacuation (ps : List Nat) : Owner := fun s =>
  if phraseListOk ps then
    defined true (listBytes ps) (applyStartRule { s with cfg := { s.cfg with evac := some ps } })
  else (s, .now .badValue [])

/-- R156: the channel on which the record just entered has started, none while it is QUEUED. A record whose phrases are all
missing may have started and completed already: it took the channel that was free. -/
def startedOn (before after : State) (handle : Nat) : Option Chan :=
  if (recordOf after handle).isSome then playingOn after handle else idleChannel before

/-- ANNOUNCE (R156). In the channel's place of the reply, QUEUED is 0xFF (DESIGN CHOICE, log entry 84). -/
def ownAnnounce (zones : Set8) (ps : List Nat) (repeats : Nat) : Owner := fun s =>
  if s.fire.latch then (s, .now .fireMode [])
  else if zones != 0#8 && phraseListOk ps then
    if s.ann.table.length < annCapacity then
      let r := enterRecord .general zones ps (clamp 0 3 repeats) s
      (r.1, .now (if repeats ≤ 3 then .accepted else .clamped)
        (bytesLE 1 r.2 ++ bytesLE 1 (clamp 0 3 repeats) ++ chanByte (startedOn s r.1 r.2)))
    else (s, .now .queueFull [])
  else (s, .now .badValue [])

/-- R164: the record's state at the request: QUEUED 0, PLAYING 1 (log entry 9). -/
def recordState (s : State) (h : Nat) : List Byte := flagByte (playingOn s h).isSome

/-- R164: a record is cancelled, with its ANNOUNCE_DONE before the start rule is applied (log entry 78). -/
def cancelRecord (h : Nat) (s : State) : State :=
  let t := announceDone h .cancelled (removeRecord h (stopHandle h s))
  if (playingOn s h).isSome then applyStartRule t else t

/-- ANNOUNCE CANCEL (R164, R165). -/
def ownAnnounceCancel (h : Nat) : Owner := fun s =>
  if h = 0 then (stopEvacuation s, .now .done [])
  else
    match recordOf s h with
    | none => (s, .now .badValue [])
    | some _ => (cancelRecord h s, .now .done (recordState s h))

/-- R167: the entry of a channel; its handle takes two bytes (DESIGN CHOICE, log entry 72). -/
def channelBytes (s : State) (c : Channel) : List Byte :=
  bytesLE 1 c.st.code ++ optLE 2 c.handle ++ bytesLE 1 c.index ++ bytesLE 3 c.offset ++ bytesLE 2 c.passes
    ++ flagByte c.yield ++ optLE 2 (remaining s c.gap)

/-- R167: the entry of a record; class CLOSING 1, GENERAL 2; state QUEUED 0, PLAYING 1; channel A 0, B 1, or 0xFF while
QUEUED (log entry 9). -/
def recordBytes (s : State) (r : Ann) : List Byte :=
  bytesLE 1 r.handle ++ bytesLE 1 (if r.cls = .closing then 1 else 2) ++ [r.zones] ++ listBytes r.phrases
    ++ bytesLE 1 r.repeats ++ bytesLE 1 r.restarts ++ recordState s r.handle ++ chanByte (playingOn s r.handle)

/-- R167: the records in the order in which the start rule would take them now. PLAYING records, which the rule does not
take, stand by their class and age among the others (DESIGN CHOICE, log entry 57). -/
def tableOrder (s : State) : List Ann :=
  s.ann.table.filter (fun r => r.cls == .closing) ++ s.ann.table.filter (fun r => r.cls == .general)

/-- R167: the payload of QUERY ANNOUNCEMENTS. -/
def queryAnnouncementsPayload (s : State) : List Byte :=
  s.ann.routing.items.flatMap chanByte ++ channelBytes s s.ann.chanA ++ channelBytes s s.ann.chanB
    ++ bytesLE 1 s.ann.table.length ++ (tableOrder s).flatMap (recordBytes s)
    ++ (match s.cfg.evac with
        | none => [0#8]
        | some ps => listBytes ps)
    ++ flagByte s.ann.wanted ++ flagByte (playingOn s 0).isSome

/-- QUERY ANNOUNCEMENTS (R167). -/
def ownQueryAnnouncements : Owner := fun s => (s, .now .done (queryAnnouncementsPayload s))

/-! ### Requests -/

def reqPhraseOpen (tag : Byte) (p n : Nat) : State → State := request 0x40#8 tag (ownPhraseOpen p n)
def reqPhraseData (tag : Byte) (p o : Nat) (d : List Byte) : State → State := request 0x41#8 tag (ownPhraseData p o d)
def reqPhraseClose (tag : Byte) (p : Nat) : State → State := request 0x42#8 tag (ownPhraseClose p)
def reqPhraseDelete (tag : Byte) (p : Nat) : State → State := request 0x43#8 tag (ownPhraseDelete p)
def reqQueryPhrases (tag : Byte) (p : Nat) : State → State := request 0x44#8 tag (ownQueryPhrases p)
def reqDefineEvacuation (tag : Byte) (ps : List Nat) : State → State := request 0x48#8 tag (ownDefineEvacuation ps)
def reqAnnounce (tag : Byte) (z : Set8) (ps : List Nat) (r : Nat) : State → State :=
  request 0x49#8 tag (ownAnnounce z ps r)
def reqAnnounceCancel (tag : Byte) (h : Nat) : State → State := request 0x4A#8 tag (ownAnnounceCancel h)
def reqQueryAnnouncements (tag : Byte) : State → State := request 0x4B#8 tag ownQueryAnnouncements

/-- R154: one sample time, every 125 µs, of both channels. -/
def audioSample (s : State) : State :=
  let n := s.time.samples + 1
  sampleChannel .b (sampleChannel .a
    { s with time := { s.time with samples := n, now := max s.time.now (n / 8) } })

/-! ### Meanings -/

/-- PHRASE_OPEN (R141). -/
def execPhraseOpen (tag : Byte) (phrase length : Nat) (s : State) : Host.Outcome State Fault Refusal :=
  .next (reqPhraseOpen tag phrase length (stamp s))

/-- PHRASE_DATA (R143). -/
def execPhraseData (tag : Byte) (phrase offset : Nat) (data : List Byte) (s : State) :
    Host.Outcome State Fault Refusal := .next (reqPhraseData tag phrase offset data (stamp s))

/-- PHRASE_CLOSE (R145). -/
def execPhraseClose (tag : Byte) (phrase : Nat) (s : State) : Host.Outcome State Fault Refusal :=
  .next (reqPhraseClose tag phrase (stamp s))

/-- PHRASE_DELETE (R147). -/
def execPhraseDelete (tag : Byte) (phrase : Nat) (s : State) : Host.Outcome State Fault Refusal :=
  .next (reqPhraseDelete tag phrase (stamp s))

/-- QUERY_PHRASES (R151). -/
def execQueryPhrases (tag : Byte) (first : Nat) (s : State) : Host.Outcome State Fault Refusal :=
  .next (reqQueryPhrases tag first (stamp s))

/-- DEFINE_EVACUATION (R165). -/
def execDefineEvacuation (tag : Byte) (phrases : List Nat) (s : State) : Host.Outcome State Fault Refusal :=
  .next (reqDefineEvacuation tag phrases (stamp s))

/-- ANNOUNCE (R156). -/
def execAnnounce (tag : Byte) (zones : Set8) (phrases : List Nat) (repeats : Nat) (s : State) :
    Host.Outcome State Fault Refusal := .next (reqAnnounce tag zones phrases repeats (stamp s))

/-- ANNOUNCE_CANCEL (R164). -/
def execAnnounceCancel (tag : Byte) (handle : Nat) (s : State) : Host.Outcome State Fault Refusal :=
  .next (reqAnnounceCancel tag handle (stamp s))

/-- QUERY_ANNOUNCEMENTS (R167). -/
def execQueryAnnouncements (tag : Byte) (s : State) : Host.Outcome State Fault Refusal :=
  .next (reqQueryAnnouncements tag (stamp s))

/-- WRITE_TRANSFER_DONE (R149). -/
def execWriteTransferDone (s : State) : Host.Outcome State Fault Refusal := .next (writeDone (stamp s))

/-- BLOCK_READ_DONE (R149). -/
def execBlockReadDone (s : State) : Host.Outcome State Fault Refusal := .next (readDone (stamp s))

/-- BLOCK_PLAY_END (R161). -/
def execBlockPlayEnd (ch : Chan) (s : State) : Host.Outcome State Fault Refusal := .next (blockEnded ch (stamp s))

/-- PASS_GAP_TIMER (R162). -/
def execPassGapTimer (ch : Chan) (s : State) : Host.Outcome State Fault Refusal :=
  .next (expire (channelAt s ch).gap (gapEnded ch) (stamp s))

/-- AUDIO_SAMPLE (R154). -/
def execAudioSample (s : State) : Host.Outcome State Fault Refusal := .next (audioSample (stamp s))

end Sys2Proof.Machine
end

