-- ==== Sys2Proof/Machine/ShutterCommands.lean ====
section
/-! DEFINITION. The commands of the Shutter Controller and the Drive Bridge Unit: the requests and the timer events of
chapters 4 and 5. -/

namespace Sys2Proof.Machine

/-! ### DEFINE SHUTTER (R69, R70) -/

/-- R70: the demand of a defined entry is placed again under the new definition. -/
def placeAgain (i : Nat) (s : State) : State :=
  match demandOf s i with
  | none => s
  | some d =>
    if d.status = .heldByLoop ∨ d.status = .waitingBridge ∨ d.status = .retryWait then
      if atTarget s i d.dir then dropDemand i s
      else offerBridge i (setStatus i .waitingBridge (modShutter i (fun x => { x with retry := none }) s))
    else s

/-- R70: the live record that an accepted definition creates on an undefined entry. -/
def createShutter (i : Nat) (s : State) : State :=
  let t := modShutter i (fun _ => { Shutter.idle with motion := limitsMotion s i }) s
  if bothLimits t i then recordFault i .limitsBoth t else t

/-- R70: the definition is written, with what it does to the live record. -/
def writeShutter (i : Nat) (d : ShutterDef) (s : State) : State :=
  let t : State := { s with cfg := { s.cfg with shutters := s.cfg.shutters.put i (some d) } }
  if isDefined s i then
    let u := placeAgain i t
    if wantsFire u i then offerFire i u else u
  else createShutter i t

/-- R69: the motion state that the kind test takes: that of a shutter the request creates is the one its limits give. -/
def motionForDefine (s : State) (i : Nat) : Motion :=
  if isDefined s i then (shutterAt s i).motion else limitsMotion s i

/-- DEFINE SHUTTER (R69). -/
def ownDefineShutter (i : Nat) (v : ShutterReq) : Owner := fun s =>
  let d := clampShutter v
  if i < 24 ∧ shutterReqOk v = true then
    if (bridgeOf s i).isSome then (s, .now .wrongState [])
    else if contactorClosed s && d.kind == .opening && motionForDefine s i != .open then (s, .now .wrongState [])
    else finishing (fun t => defined (shutterUnclamped v d) (shutterBytes d) (writeShutter i d t)) s
  else (s, .now .badValue [])

/-! ### SHUTTER CLOSE, SHUTTER OPEN, SHUTTER TEST (R76, R109) -/

/-- R76: why a shutter refuses: its fault, or else the class of the demand in force. -/
def refusalDetail (s : State) (i : Nat) : List Byte :=
  match (shutterAt s i).fault with
  | some f => bytesLE 1 f.code
  | none =>
    match demandOf s i with
    | some d => bytesLE 1 d.cls.code
    | none => []

/-- The three lists of R76 as sets (DESIGN CHOICE, log entry 87). -/
def listsBytes (l : PlacedLists) : List Byte := setBytes 3 l.placed ++ setBytes 3 l.satisfied ++ setBytes 3 l.refused

/-- R76: a HOST demand on one shutter. -/
def moveOne (dir : DemandDir) (i : Nat) : Owner := fun s =>
  match offerDemand i dir .host s with
  | (_, .refused) => (s, .now .wrongState (refusalDetail s i))
  | (t, _) => (finish t, .now .done [])

/-- R76: a HOST demand on each of several shutters. -/
def moveMany (dir : DemandDir) (ids : List Nat) : Owner := fun s =>
  let r := offerAll ids dir .host s
  (finish r.1, .now .done (listsBytes r.2))

/-- R76: the address of a request: an id 0, a group 1, a floor 2, ALL 3 (section 11.5). Another kind, and a kind whose
member byte does not fit it, is refused with BAD_VALUE (DESIGN CHOICE, log entry 55). -/
def moveShutters (dir : DemandDir) (kind : Nat) (member : Member) : Owner := fun s =>
  match kind, member with
  | 0, .one i => if i < 24 ∧ isDefined s i = true then moveOne dir i s else (s, .now .badValue [])
  | 1, .one g => if g < 8 then moveMany dir (groupShutters s g) s else (s, .now .badValue [])
  | 2, .one f => if f < 8 then moveMany dir (floorShutters s f) s else (s, .now .badValue [])
  | 3, .all => moveMany dir (definedShutters s) s
  | _, _ => (s, .now .badValue [])

/-- SHUTTER CLOSE and SHUTTER OPEN (R76). -/
def ownMove (dir : DemandDir) (kind : Nat) (member : Member) : Owner := fun s =>
  if s.fire.latch then (s, .now .fireMode []) else moveShutters dir kind member s

/-- R109: the shutter is LOWERING or RAISING, has a demand, or is connected other than by a sweep check. -/
def testBarred (s : State) (i : Nat) : Bool :=
  (shutterAt s i).motion.driven || (demandOf s i).isSome || ((bridgeOf s i).isSome && (sweepOf s i).isNone)

/-- SHUTTER TEST (R109). -/
def ownShutterTest (i : Nat) : Owner := fun s =>
  if s.fire.latch then (s, .now .fireMode [])
  else if i < 24 ∧ isDefined s i = true then
    match (shutterAt s i).fault with
    | some f => (s, .now .wrongState (bytesLE 1 f.code))
    | none =>
      if testBarred s i then (s, .now .wrongState [])
      else finishing (fun t => (toBridge i (putDemand i .test .host false .waitingBridge t), .now .accepted [])) s
  else (s, .now .badValue [])

/-! ### CLEAR FAULTS for shutters and bridges (R96, R113) -/

/-- R92, R96: the fault is removed, the obstruction count becomes 0, a demand loses its single-attempt flag, an undriven
shutter's motion state is taken afresh, and a FIRE demand is offered where R90 says. -/
def clearShutter (i : Nat) (s : State) : State :=
  let t := modShutter i (fun x => { x with
    fault := none
    obstructions := 0
    demand := x.demand.map (fun d => { d with single := false })
    motion := if x.motion.driven then x.motion else limitsMotion s i }) s
  if wantsFire t i then offerFire i t else t

/-- The shutter has a fault that CLEAR FAULTS can remove. -/
def clearable (s : State) (i : Nat) : Bool := (shutterAt s i).fault.isSome && !bothLimits s i

/-- CLEAR FAULTS with a shutter target (R96); ALL takes them in ascending id (DESIGN CHOICE, log entry 54). -/
def clearShutterFaults (target : Member) : Owner := fun s =>
  match target with
  | .one i =>
    if i < 24 ∧ isDefined s i = true then
      if (shutterAt s i).fault.isNone then (s, .now .done [])
      else if bothLimits s i then (s, .now .wrongState [])
      else finishing (fun t => (clearShutter i t, .now .done [])) s
    else (s, .now .badValue [])
  | .all =>
    finishing (fun t =>
      let u := forEach ((definedShutters t).filter (clearable t)) clearShutter t
      (u, .now .done (setBytes 3 ((definedShutters u).filter (fun i => (shutterAt u i).fault.isSome))))) s

/-- R113: the bridge's suspicion and pending withdrawal are removed, and it returns to service. -/
def restoreBridge (b : Nat) (s : State) : State :=
  modBridge b (fun x => { x with
    suspect := none, withdrawn := none, st := if x.st = .outOfService then .free else x.st }) s

/-- CLEAR FAULTS with a bridge target (R113). -/
def clearBridgeFaults (target : Member) : Owner := fun s =>
  match target with
  | .one b => if b < 4 then finishing (fun t => (restoreBridge b t, .now .done [])) s else (s, .now .badValue [])
  | .all => finishing (fun t => (forEach (List.range 4) restoreBridge t, .now .done [])) s

/-! ### DEFINE BRIDGES (R110, R115) -/

/-- DEFINE BRIDGES (R115). -/
def ownDefineBridges (v : BridgeParams) : Owner := fun s =>
  let w := clampBridges v
  if bridgesOrdered w then
    defined (w == v) (bridgeBytes w)
      { s with
        cfg := { s.cfg with bridges := w }
        bridges := { s.bridges with
          sweepTimer := if w.sweep = 0 then none else some (inMs s (60000 * w.sweep))
          sweepDue := if w.sweep = 0 then false else s.bridges.sweepDue } }
  else (s, .now .badValue [])

/-! ### Queries (R98, R116) -/

/-- Milliseconds left on a timer in three bytes, none as 0xFF. -/
def leftBytes (s : State) (due : Option Nat) : List Byte := optLE 3 (remaining s due)

/-- A placement time: the running time at the placement, in milliseconds since the last start, in five bytes; the manual
names no time base, unit or width (DESIGN CHOICE, log entry 44). -/
def placementBytes (t : Nat) : List Byte := bytesLE 5 t

/-- A demand: what it asks for, class, status, placement time and single-attempt flag; NONE with bytes of 0xFF. -/
def demandBytes : Option Demand → List Byte
  | none => 0#8 :: List.replicate 8 0xFF#8
  | some d =>
    bytesLE 1 d.dir.code ++ bytesLE 1 d.cls.code ++ bytesLE 1 d.status.code ++ placementBytes d.placedAt
      ++ flagByte d.single

/-- The place in the grant queue, 1 for the head; none for a shutter that does not wait. -/
def queuePlace (s : State) (i : Nat) : Option Nat := ((grantQueue s).findIdx? (· == i)).map (· + 1)

/-- R98: the payload of QUERY SHUTTER for a defined shutter; its first byte 1 marks it defined (DESIGN CHOICE, log entry
87). -/
def shutterPayload (s : State) (i : Nat) (d : ShutterDef) : List Byte :=
  let x := shutterAt s i
  1#8 :: (shutterBytes d ++ acceptedByte (acceptedAt s (topLimitPoint i)) ++ acceptedByte (acceptedAt s (bottomLimitPoint i))
    ++ acceptedByte (acceptedAt s (edgePoint i))
    ++ acceptedByte ((openingOf s i).bind (fun o => acceptedAt s (sillPoint o)))
    ++ bytesLE 1 x.motion.code ++ demandBytes x.demand ++ bytesLE 1 x.obstructions
    ++ optLE 1 (x.fault.map CheckResult.code) ++ optLE 1 (bridgeOf s i)
    ++ optLE 1 (x.lastCheck.map (fun c => c.1.code)) ++ optLE 3 (x.lastCheck.bind Prod.snd)
    ++ optLE 1 (queuePlace s i) ++ leftBytes s x.travel ++ leftBytes s x.retry ++ leftBytes s x.pause)

/-- QUERY SHUTTER (R98). -/
def ownQueryShutter (target : Member) : Owner := fun s =>
  match target with
  | .all => (s, .now .scopeNotSingle [])
  | .one i =>
    if i < 24 then
      match shutterDef s i with
      | none => (s, .now .done [0#8])
      | some d => (s, .now .done (shutterPayload s i d))
    else (s, .now .badValue [])

/-- The levels read so far in one byte: two bits for each setting, REST in the lowest, terminal A the lower bit of the two
(DESIGN CHOICE, log entry 66). -/
def levelsByte (ls : List (Bool × Bool)) : Nat :=
  ls.foldr (fun p n => 4 * n + (if p.1 then 1 else 0) + (if p.2 then 2 else 0)) 0

/-- R116: check purpose, setting in progress, levels read so far, direction and hold of a bridge; each but the hold is
0xFF where the bridge's state has none. Upward is 1, and the hold outside DWELL is 0 (DESIGN CHOICE, log entry 87). -/
def bridgeStateBytes : BridgeState → List Byte
  | .checking p ls _ => bytesLE 1 p.code ++ bytesLE 1 ls.length ++ bytesLE 1 (levelsByte ls) ++ [0xFF#8, 0#8]
  | .driving raise _ _ _ => [0xFF#8, 0xFF#8, 0xFF#8] ++ flagByte raise ++ [0#8]
  | .dwell _ hold _ => [0xFF#8, 0xFF#8, 0xFF#8, 0xFF#8] ++ flagByte hold
  | .free | .outOfService => [0xFF#8, 0xFF#8, 0xFF#8, 0xFF#8, 0#8]

/-- R116: the stall run and the open run of a bridge; 0xFF while it does not drive. -/
def bridgeRunBytes : BridgeState → List Byte
  | .driving _ sr op _ => bytesLE 1 sr ++ bytesLE 1 op
  | .free | .checking _ _ _ | .dwell _ _ _ | .outOfService => [0xFF#8, 0xFF#8]

/-- R116: the entry of a bridge, its fields in the order the rule names them; the in-service flag and the withdrawal
pending share a byte, as bits 0 and 1 (log entry 44). -/
def bridgeRecordBytes (x : Bridge) : List Byte :=
  bytesLE 1 x.st.code
    ++ bytesLE 1 ((if x.st = .outOfService then 0 else 1) + (if x.withdrawn.isSome then 2 else 0))
    ++ optLE 1 x.shutter ++ bridgeStateBytes x.st ++ optLE 2 x.latest ++ bridgeRunBytes x.st ++ optLE 1 x.suspect

/-- R116: an entry of the grant queue: shutter id, class and priority, and placement time. Class and priority share a
byte, the class in its low half (log entry 44). -/
def queueEntryBytes (s : State) (i : Nat) : List Byte :=
  bytesLE 1 i
    ++ optLE 1 ((demandOf s i).bind (fun d => (shutterDef s i).map (fun x => d.cls.code + 16 * x.priority)))
    ++ (((demandOf s i).map (fun d => placementBytes d.placedAt)).getD (List.replicate 5 0xFF#8))

/-- R116: the payload of QUERY BRIDGES. -/
def queryBridgesPayload (s : State) : List Byte :=
  (List.range 4).flatMap (fun b => bridgeRecordBytes (bridgeAt s b))
    ++ bytesLE 1 (grantQueue s).length ++ (grantQueue s).flatMap (queueEntryBytes s)
    ++ bytesLE 1 s.bridges.cursor ++ flagByte s.bridges.sweepDue ++ leftBytes s s.bridges.sweepTimer
    ++ bridgeBytes s.cfg.bridges

/-- QUERY BRIDGES (R116). -/
def ownQueryBridges : Owner := fun s => (s, .now .done (queryBridgesPayload s))

/-! ### Requests -/

def reqDefineShutter (tag : Byte) (i : Nat) (v : ShutterReq) : State → State :=
  request 0x28#8 tag (ownDefineShutter i v)
def reqShutterClose (tag : Byte) (kind : Nat) (m : Member) : State → State := request 0x29#8 tag (ownMove .close kind m)
def reqShutterOpen (tag : Byte) (kind : Nat) (m : Member) : State → State := request 0x2A#8 tag (ownMove .open kind m)
def reqShutterTest (tag : Byte) (i : Nat) : State → State := request 0x2B#8 tag (ownShutterTest i)
def reqQueryShutter (tag : Byte) (m : Member) : State → State := request 0x2C#8 tag (ownQueryShutter m)
def reqDefineBridges (tag : Byte) (v : BridgeParams) : State → State := request 0x2D#8 tag (ownDefineBridges v)
def reqQueryBridges (tag : Byte) : State → State := request 0x2E#8 tag ownQueryBridges

/-! ### Timer events (R82, R86, R87, R105, R107, R108, R110) -/

/-- R107: the open grace timer of a driving bridge. -/
def graceDue (s : State) (b : Nat) : Option Nat :=
  match (bridgeAt s b).st with
  | .driving _ _ _ g => g
  | _ => none

/-- R107: the open grace has elapsed. -/
def graceElapsed (b : Nat) (s : State) : State :=
  modBridge b (fun x => match x.st with
    | .driving raise sr op _ => { x with st := .driving raise sr op none }
    | _ => x) s

/-- R82: the travel timer has expired. -/
def travelExpired (i : Nat) (s : State) : State :=
  let t := modShutter i (fun x => { x with travel := none }) s
  if (shutterAt t i).motion.driven then travelFault i .travelTimeout t else t

/-- R86: the retry timer has expired. -/
def retryExpired (i : Nat) (s : State) : State :=
  let t := modShutter i (fun x => { x with retry := none }) s
  if hasStatus t i .retryWait then offerBridge i (setStatus i .waitingBridge t) else t

/-- R87: the pause timer has expired: the hold ends and the drive starts downward again. -/
def pauseExpired (i : Nat) (s : State) : State :=
  let t := modShutter i (fun x => { x with pause := none }) s
  if hasStatus t i .paused then driveTo i t else t

/-- R108: the dwell timer of a bridge. -/
def dwellDue (s : State) (b : Nat) : Option Nat :=
  match (bridgeAt s b).st with
  | .dwell t _ _ => t
  | _ => none

/-- R108: the dwell timer has expired: the dwell ends, or waits for the end of its hold. -/
def dwellExpired (b : Nat) (s : State) : State :=
  match (bridgeAt s b).st with
  | .dwell _ true tr => modBridge b (fun x => { x with st := .dwell none true tr }) s
  | .dwell _ false _ => dwellEnd b s
  | _ => s

/-- R110: the sweep timer has expired. -/
def sweepExpired (s : State) : State :=
  { s with bridges := { s.bridges with
    sweepDue := true
    sweepTimer := if s.cfg.bridges.sweep = 0 then none else some (inMs s (60000 * s.cfg.bridges.sweep)) } }

/-! ### Meanings -/

/-- DEFINE_SHUTTER (R69). -/
def execDefineShutter (tag : Byte) (i : Nat) (v : ShutterReq) (s : State) : Host.Outcome State Fault Refusal :=
  .next (reqDefineShutter tag i v (stamp s))

/-- SHUTTER_CLOSE (R76). -/
def execShutterClose (tag : Byte) (kind : Nat) (m : Member) (s : State) : Host.Outcome State Fault Refusal :=
  .next (reqShutterClose tag kind m (stamp s))

/-- SHUTTER_OPEN (R76). -/
def execShutterOpen (tag : Byte) (kind : Nat) (m : Member) (s : State) : Host.Outcome State Fault Refusal :=
  .next (reqShutterOpen tag kind m (stamp s))

/-- SHUTTER_TEST (R109). -/
def execShutterTest (tag : Byte) (i : Nat) (s : State) : Host.Outcome State Fault Refusal :=
  .next (reqShutterTest tag i (stamp s))

/-- QUERY_SHUTTER (R98). -/
def execQueryShutter (tag : Byte) (m : Member) (s : State) : Host.Outcome State Fault Refusal :=
  .next (reqQueryShutter tag m (stamp s))

/-- DEFINE_BRIDGES (R115). -/
def execDefineBridges (tag : Byte) (v : BridgeParams) (s : State) : Host.Outcome State Fault Refusal :=
  .next (reqDefineBridges tag v (stamp s))

/-- QUERY_BRIDGES (R116). -/
def execQueryBridges (tag : Byte) (s : State) : Host.Outcome State Fault Refusal :=
  .next (reqQueryBridges tag (stamp s))

/-- OPEN_GRACE_TIMER (R107). -/
def execOpenGraceTimer (b : Fin 4) (s : State) : Host.Outcome State Fault Refusal :=
  .next (expire (graceDue s b) (graceElapsed b) (stamp s))

/-- TRAVEL_TIMER (R82). -/
def execTravelTimer (i : Fin 24) (s : State) : Host.Outcome State Fault Refusal :=
  .next (finish (expire (shutterAt s i).travel (travelExpired i) (stamp s)))

/-- RETRY_TIMER (R86). -/
def execRetryTimer (i : Fin 24) (s : State) : Host.Outcome State Fault Refusal :=
  .next (finish (expire (shutterAt s i).retry (retryExpired i) (stamp s)))

/-- PAUSE_TIMER (R87). -/
def execPauseTimer (i : Fin 24) (s : State) : Host.Outcome State Fault Refusal :=
  .next (finish (expire (shutterAt s i).pause (pauseExpired i) (stamp s)))

/-- CHECK_SETTING_END (R105). -/
def execCheckSettingEnd (b : Fin 4) (levelA levelB : Bool) (s : State) : Host.Outcome State Fault Refusal :=
  .next (finish (settingEnd b levelA levelB (stamp s)))

/-- DWELL_TIMER (R108). -/
def execDwellTimer (b : Fin 4) (s : State) : Host.Outcome State Fault Refusal :=
  .next (finish (expire (dwellDue s b) (dwellExpired b) (stamp s)))

/-- SWEEP_TIMER (R110). -/
def execSweepTimer (s : State) : Host.Outcome State Fault Refusal :=
  .next (finish (expire s.bridges.sweepTimer sweepExpired (stamp s)))

end Sys2Proof.Machine
end

