-- ==== Sys2Proof/Machine/HouseCommands.lean ====
section
/-! DEFINITION. The commands of the House Link Interface: its own requests, and the byte, gap and reply events of
chapter 10. -/

namespace Sys2Proof.Machine

/-! ### Requests of the whole part -/

/-- R198: the capacities in the order named, the store pages in two bytes. -/
def capacities : List Byte :=
  [24, 8, 24, 4, 8, 8, 48, 16, 8, 8, 2, 12, 64].flatMap (bytesLE 1) ++ bytesLE 2 256
    ++ [16, 48, 16, 240, 224].flatMap (bytesLE 1)

/-- IDENTIFY (R198). -/
def ownIdentify : Owner := fun s =>
  (s, .now .done (bytesLE 2 Config.vendorCode.toNat ++ bytesLE 2 4720 ++ [Config.revision] ++ capacities))

/-- The number of defined shutters that satisfy `p`. -/
def countShutters (s : State) (p : Shutter → Bool) : Nat := ((definedShutters s).filter (fun i => p (shutterAt s i))).length

/-- R199: the payload of STATUS. The handle a channel plays takes two bytes, 0xFFFF for none, since every value of one byte
is a handle (DESIGN CHOICE, log entry 72). -/
def statusPayload (s : State) : List Byte :=
  bytesLE 1 s.loop.st.code ++ flagByte s.loop.refValid ++ optLE 1 (s.loop.fault.map (fun f => f.cause.code))
    ++ flagByte s.fire.latch ++ [s.fire.alarmed] ++ s.fire.zones.items.flatMap (fun z => bytesLE 1 z.st.code)
    ++ [Motion.open, .closed, .lowering, .raising, .stoppedMid].flatMap
        (fun m => bytesLE 1 (countShutters s (fun x => x.motion == m)))
    ++ bytesLE 1 (countShutters s (fun x => x.fault.isSome))
    ++ s.bridges.units.items.flatMap (fun b => bytesLE 1 b.st.code)
    ++ s.bells.lines.items.flatMap (fun l => bytesLE 1 l.st.code ++ bytesLE 1 l.queue.length)
    ++ bytesLE 1 s.ann.chanA.st.code ++ optLE 2 s.ann.chanA.handle
    ++ bytesLE 1 s.ann.chanB.st.code ++ optLE 2 s.ann.chanB.handle
    ++ bytesLE 1 s.prog.st.code ++ dueBytes (nextDue s) ++ clockBytes s.clock
    ++ bytesLE 1 s.link.events.length ++ bytesLE 1 s.link.lost ++ flagByte s.field.lost ++ flagByte s.link.settingsChanged

/-- STATUS (R199). -/
def ownStatus : Owner := fun s => (s, .now .done (statusPayload s))

/-- Section 11.6: the 8 bytes of an event record. -/
def eventBytes (e : EventRec) : List Byte :=
  bytesLE 1 e.kind.code
    ++ bytesLE 1 ((if e.subject.isSome then 1 else 0) + (if e.time.isNone then 2 else 0))
    ++ bytesLE 1 (e.subject.getD 0) ++ bytesLE 2 e.detail ++ bytesLE 3 (e.time.getD 0)

/-- FETCH EVENTS (R196). -/
def ownFetchEvents (count : Nat) : Owner := fun s =>
  if within 1 8 count then
    let out := s.link.events.take count
    let rest := s.link.events.drop count
    let t := modLink (fun l =>
      if rest.isEmpty then { l with events := [], eventsLost := false, lost := 0 } else { l with events := rest }) s
    (t, .nowLost .done
      (bytesLE 1 out.length ++ bytesLE 1 rest.length ++ bytesLE 1 s.link.lost ++ out.flatMap eventBytes)
      s.link.eventsLost)
  else (s, .now .badValue [])

/-- CLEAR FAULTS (R200): LOOP 0, a shutter target 1, a bridge target 2. With LOOP the id byte is ignored (DESIGN CHOICE,
log entry 62). -/
def ownClearFaults (kind : Nat) (target : Member) : Owner :=
  match kind with
  | 0 => clearLoopFault
  | 1 => clearShutterFaults target
  | 2 => clearBridgeFaults target
  | _ => refuse .badValue []

/-- SET LINK RATE (R188). -/
def ownSetLinkRate (rate : Nat) : Owner := fun s =>
  if linkRates.contains rate then (modLink (fun l => { l with newRate := some rate }) s, .now .done (bytesLE 3 rate))
  else (s, .now .badValue [])

/-- SAVE SETTINGS (R202): the image of 1280 bytes in five transfers of 256 bytes, in ascending address. R202 bounds a
transfer at 256 bytes and leaves the division and the order open (DESIGN CHOICE, log entry 79). -/
def ownSaveSettings : Owner := fun s => (startStream .settings (piecesOf 256 0 5 (settingsImage s.cfg)) s, .later)

/-- R203: the lowest-numbered bridge that bars a restart. -/
def restartBar (s : State) : Option Nat :=
  (List.range 4).find? (fun b =>
    match (bridgeAt s b).st with
    | .checking _ _ _ | .driving _ _ _ _ | .dwell _ _ _ => true
    | .free | .outOfService => false)

/-- RESTART (R203). -/
def ownRestart : Owner := fun s =>
  if contactorClosed s || (restartBar s).isSome then
    (s, .now .wrongState (bytesLE 1 s.loop.st.code ++ optLE 1 (restartBar s)))
  else (modLink (fun l => { l with restarting := true }) s, .now .done [])

def reqIdentify (tag : Byte) : State → State := request 0x01#8 tag ownIdentify
def reqStatus (tag : Byte) : State → State := request 0x02#8 tag ownStatus
def reqFetchEvents (tag : Byte) (n : Nat) : State → State := request 0x03#8 tag (ownFetchEvents n)
def reqClearFaults (tag : Byte) (k : Nat) (t : Member) : State → State := request 0x04#8 tag (ownClearFaults k t)
def reqSetLinkRate (tag : Byte) (r : Nat) : State → State := request 0x06#8 tag (ownSetLinkRate r)
def reqSaveSettings (tag : Byte) : State → State := request 0x07#8 tag ownSaveSettings
def reqRestart (tag : Byte) : State → State := request 0x08#8 tag ownRestart

/-! ### Dispatch of a good frame (R192) -/

/-- A request that a frame has carried is handed to its owner. -/
def takeRequest : Instr → State → State
  | .identify t => reqIdentify t
  | .status t => reqStatus t
  | .fetchEvents t n => reqFetchEvents t n
  | .clearFaults t k m => reqClearFaults t k m
  | .setLinkRate t r => reqSetLinkRate t r
  | .saveSettings t => reqSaveSettings t
  | .restart t => reqRestart t
  | .defineLoop t n l w => reqDefineLoop t n l w
  | .defineOpening t o p b a => reqDefineOpening t o p b a
  | .defineLoopTiming t v => reqDefineLoopTiming t v
  | .loopStart t => reqLoopStart t
  | .loopDrain t => reqLoopDrain t
  | .loopStop t f => reqLoopStop t f
  | .loopCreep t => reqLoopCreep t
  | .landingLockout t l x => reqLandingLockout t l x
  | .queryLoop t => reqQueryLoop t
  | .queryCars t => reqQueryCars t
  | .queryLanding t l => reqQueryLanding t l
  | .defineZone t z v => reqDefineZone t z v
  | .queryZones t => reqQueryZones t
  | .fireReset t => reqFireReset t
  | .defineShutter t i v => reqDefineShutter t i v
  | .shutterClose t k m => reqShutterClose t k m
  | .shutterOpen t k m => reqShutterOpen t k m
  | .shutterTest t i => reqShutterTest t i
  | .queryShutter t m => reqQueryShutter t m
  | .defineBridges t v => reqDefineBridges t v
  | .queryBridges t => reqQueryBridges t
  | .defineCode t c gs u r => reqDefineCode t c gs u r
  | .defineStation t n e lc => reqDefineStation t n e lc
  | .defineBellTiming t v => reqDefineBellTiming t v
  | .bellRing t l c => reqBellRing t l c
  | .bellAnswer t l c => reqBellAnswer t l c
  | .bellSilence t l => reqBellSilence t l
  | .queryBellLine t l n => reqQueryBellLine t l n
  | .phraseOpen t p n => reqPhraseOpen t p n
  | .phraseData t p o d => reqPhraseData t p o d
  | .phraseClose t p => reqPhraseClose t p
  | .phraseDelete t p => reqPhraseDelete t p
  | .queryPhrases t p => reqQueryPhrases t p
  | .defineEvacuation t ps => reqDefineEvacuation t ps
  | .announce t z ps r => reqAnnounce t z ps r
  | .announceCancel t h => reqAnnounceCancel t h
  | .queryAnnouncements t => reqQueryAnnouncements t
  | .setClock t c w => reqSetClock t c w
  | .defineClosingTimes t ts => reqDefineClosingTimes t ts
  | .defineStep t k x => reqDefineStep t k x
  | .closingStart t => reqClosingStart t
  | .closingDelay t m => reqClosingDelay t m
  | .closingAbort t => reqClosingAbort t
  | .queryClosing t k => reqQueryClosing t k
  | .powerOn | .resetPin | .serialByteReceived _ | .frameGapTimer | .replySent => id
  | .countPulse | .pitchPulse | .datumPulse | .standstillTimer | .windowTimer | .drainTimer | .creepDelayTimer => id
  | .scanEvent _ _ | .conversionComplete _ => id
  | .openGraceTimer _ | .travelTimer _ | .retryTimer _ | .pauseTimer _ => id
  | .checkSettingEnd _ _ _ | .dwellTimer _ | .sweepTimer => id
  | .strikerOnTimeEnd _ | .lineTimer _ | .callDueTime _ _ _ | .flashTimer _ => id
  | .writeTransferDone | .blockReadDone | .blockPlayEnd _ | .passGapTimer _ => id
  | .secondTick | .holdTimer | .audioSample => id

/-- R192: a good frame with the body is dispatched. -/
def dispatch (body : List Byte) (s : State) : State :=
  let kind := body.getD 0 0#8
  let tag := body.getD 1 0#8
  match decodeBody body with
  | .request i => takeRequest i s
  | .malformed => request kind tag (refuse .malformed []) s
  | .unknownKind => request kind tag (refuse .unknownKind []) s

/-- R189, R190: what the framer does with the outcome of its hunt: the flag, the candidate under way and its gap timer, and
a good frame with the bytes that follow it. -/
def takeFramed (r : Framed) (s : State) : State :=
  let t := if r.dropped then setDropped s else s
  match r.frame with
  | none => modLink (fun l => { l with kept := r.kept, gap := if r.kept.isEmpty then none else some (inMs s 25) }) t
  | some (body, rest) =>
    let u := dispatch body (modLink (fun l => { l with kept := [], gap := none }) t)
    if rest.contains 0x7E#8 then setDropped u else u

/-- R189, R191: a byte is received. -/
def byteReceived (b : Byte) (s : State) : State :=
  if s.link.closed then (if b = 0x7E#8 then setDropped s else s) else takeFramed (hunt (s.link.kept ++ [b])) s

/-- R190: the gap timer has expired: the candidate is dropped and its bytes after the start byte are hunted again. -/
def gapExpired (s : State) : State := takeFramed { hunt s.link.kept.tail with dropped := true } s

/-! ### Meanings -/

/-- SERIAL_BYTE_RECEIVED (R189). -/
def execSerialByteReceived (b : Byte) (s : State) : Host.Outcome State Fault Refusal := .next (byteReceived b (stamp s))

/-- FRAME_GAP_TIMER (R190). -/
def execFrameGapTimer (s : State) : Host.Outcome State Fault Refusal :=
  .next (expire s.link.gap gapExpired (stamp s))

/-- REPLY_SENT (R191). -/
def execReplySent (s : State) : Host.Outcome State Fault Refusal := .next (replySent (stamp s))

/-- IDENTIFY (R198). -/
def execIdentify (tag : Byte) (s : State) : Host.Outcome State Fault Refusal := .next (reqIdentify tag (stamp s))

/-- STATUS (R199). -/
def execStatus (tag : Byte) (s : State) : Host.Outcome State Fault Refusal := .next (reqStatus tag (stamp s))

/-- FETCH_EVENTS (R196). -/
def execFetchEvents (tag : Byte) (count : Nat) (s : State) : Host.Outcome State Fault Refusal :=
  .next (reqFetchEvents tag count (stamp s))

/-- CLEAR_FAULTS (R200). -/
def execClearFaults (tag : Byte) (kind : Nat) (target : Member) (s : State) : Host.Outcome State Fault Refusal :=
  .next (reqClearFaults tag kind target (stamp s))

/-- SET_LINK_RATE (R188). -/
def execSetLinkRate (tag : Byte) (rate : Nat) (s : State) : Host.Outcome State Fault Refusal :=
  .next (reqSetLinkRate tag rate (stamp s))

/-- SAVE_SETTINGS (R202). -/
def execSaveSettings (tag : Byte) (s : State) : Host.Outcome State Fault Refusal :=
  .next (reqSaveSettings tag (stamp s))

/-- RESTART (R203). -/
def execRestart (tag : Byte) (s : State) : Host.Outcome State Fault Refusal := .next (reqRestart tag (stamp s))

end Sys2Proof.Machine
end

