-- ==== Sys2Proof/Machine/Dispatch.lean ====
section
/-! DEFINITION. The dispatch of a command to its meaning: one arm for each row of the table of operations and events. -/

namespace Sys2Proof.Machine

/-- The effect of a command on everything but the queue of the commands that wait. -/
def exec (i : Instr) (s : State) : Host.Outcome State Fault Refusal :=
  match i with
  | .powerOn => Sys2Proof.Machine.execPowerOn s
  | .resetPin => Sys2Proof.Machine.execResetPin s
  | .serialByteReceived b => Sys2Proof.Machine.execSerialByteReceived b s
  | .frameGapTimer => Sys2Proof.Machine.execFrameGapTimer s
  | .replySent => Sys2Proof.Machine.execReplySent s
  | .identify tag => Sys2Proof.Machine.execIdentify tag s
  | .status tag => Sys2Proof.Machine.execStatus tag s
  | .fetchEvents tag count => Sys2Proof.Machine.execFetchEvents tag count s
  | .clearFaults tag kind target => Sys2Proof.Machine.execClearFaults tag kind target s
  | .setLinkRate tag rate => Sys2Proof.Machine.execSetLinkRate tag rate s
  | .saveSettings tag => Sys2Proof.Machine.execSaveSettings tag s
  | .restart tag => Sys2Proof.Machine.execRestart tag s
  | .defineLoop tag n l wMin => Sys2Proof.Machine.execDefineLoop tag n l wMin s
  | .defineOpening tag o sill below above => Sys2Proof.Machine.execDefineOpening tag o sill below above s
  | .defineLoopTiming tag v => Sys2Proof.Machine.execDefineLoopTiming tag v s
  | .loopStart tag => Sys2Proof.Machine.execLoopStart tag s
  | .loopDrain tag => Sys2Proof.Machine.execLoopDrain tag s
  | .loopStop tag force => Sys2Proof.Machine.execLoopStop tag force s
  | .loopCreep tag => Sys2Proof.Machine.execLoopCreep tag s
  | .landingLockout tag landing setting => Sys2Proof.Machine.execLandingLockout tag landing setting s
  | .queryLoop tag => Sys2Proof.Machine.execQueryLoop tag s
  | .queryCars tag => Sys2Proof.Machine.execQueryCars tag s
  | .queryLanding tag landing => Sys2Proof.Machine.execQueryLanding tag landing s
  | .defineZone tag zone v => Sys2Proof.Machine.execDefineZone tag zone v s
  | .queryZones tag => Sys2Proof.Machine.execQueryZones tag s
  | .fireReset tag => Sys2Proof.Machine.execFireReset tag s
  | .defineShutter tag shutter v => Sys2Proof.Machine.execDefineShutter tag shutter v s
  | .shutterClose tag kind member => Sys2Proof.Machine.execShutterClose tag kind member s
  | .shutterOpen tag kind member => Sys2Proof.Machine.execShutterOpen tag kind member s
  | .shutterTest tag shutter => Sys2Proof.Machine.execShutterTest tag shutter s
  | .queryShutter tag shutter => Sys2Proof.Machine.execQueryShutter tag shutter s
  | .defineBridges tag v => Sys2Proof.Machine.execDefineBridges tag v s
  | .queryBridges tag => Sys2Proof.Machine.execQueryBridges tag s
  | .defineCode tag code groups urgency repeats => Sys2Proof.Machine.execDefineCode tag code groups urgency repeats s
  | .defineStation tag station enable lineCode => Sys2Proof.Machine.execDefineStation tag station enable lineCode s
  | .defineBellTiming tag v => Sys2Proof.Machine.execDefineBellTiming tag v s
  | .bellRing tag line code => Sys2Proof.Machine.execBellRing tag line code s
  | .bellAnswer tag line code => Sys2Proof.Machine.execBellAnswer tag line code s
  | .bellSilence tag line => Sys2Proof.Machine.execBellSilence tag line s
  | .queryBellLine tag line first => Sys2Proof.Machine.execQueryBellLine tag line first s
  | .phraseOpen tag phrase length => Sys2Proof.Machine.execPhraseOpen tag phrase length s
  | .phraseData tag phrase offset bytes => Sys2Proof.Machine.execPhraseData tag phrase offset bytes s
  | .phraseClose tag phrase => Sys2Proof.Machine.execPhraseClose tag phrase s
  | .phraseDelete tag phrase => Sys2Proof.Machine.execPhraseDelete tag phrase s
  | .queryPhrases tag first => Sys2Proof.Machine.execQueryPhrases tag first s
  | .defineEvacuation tag phrases => Sys2Proof.Machine.execDefineEvacuation tag phrases s
  | .announce tag zones phrases repeats => Sys2Proof.Machine.execAnnounce tag zones phrases repeats s
  | .announceCancel tag handle => Sys2Proof.Machine.execAnnounceCancel tag handle s
  | .queryAnnouncements tag => Sys2Proof.Machine.execQueryAnnouncements tag s
  | .setClock tag seconds weekday => Sys2Proof.Machine.execSetClock tag seconds weekday s
  | .defineClosingTimes tag times => Sys2Proof.Machine.execDefineClosingTimes tag times s
  | .defineStep tag slot x => Sys2Proof.Machine.execDefineStep tag slot x s
  | .closingStart tag => Sys2Proof.Machine.execClosingStart tag s
  | .closingDelay tag minutes => Sys2Proof.Machine.execClosingDelay tag minutes s
  | .closingAbort tag => Sys2Proof.Machine.execClosingAbort tag s
  | .queryClosing tag first => Sys2Proof.Machine.execQueryClosing tag first s
  | .countPulse => Sys2Proof.Machine.execCountPulse s
  | .pitchPulse => Sys2Proof.Machine.execPitchPulse s
  | .datumPulse => Sys2Proof.Machine.execDatumPulse s
  | .standstillTimer => Sys2Proof.Machine.execStandstillTimer s
  | .windowTimer => Sys2Proof.Machine.execWindowTimer s
  | .drainTimer => Sys2Proof.Machine.execDrainTimer s
  | .creepDelayTimer => Sys2Proof.Machine.execCreepDelayTimer s
  | .scanEvent inputs check => Sys2Proof.Machine.execScanEvent inputs check s
  | .conversionComplete reading => Sys2Proof.Machine.execConversionComplete reading s
  | .openGraceTimer bridge => Sys2Proof.Machine.execOpenGraceTimer bridge s
  | .travelTimer shutter => Sys2Proof.Machine.execTravelTimer shutter s
  | .retryTimer shutter => Sys2Proof.Machine.execRetryTimer shutter s
  | .pauseTimer shutter => Sys2Proof.Machine.execPauseTimer shutter s
  | .checkSettingEnd bridge levelA levelB => Sys2Proof.Machine.execCheckSettingEnd bridge levelA levelB s
  | .dwellTimer bridge => Sys2Proof.Machine.execDwellTimer bridge s
  | .sweepTimer => Sys2Proof.Machine.execSweepTimer s
  | .strikerOnTimeEnd line => Sys2Proof.Machine.execStrikerOnTimeEnd line s
  | .lineTimer line => Sys2Proof.Machine.execLineTimer line s
  | .callDueTime line origin code => Sys2Proof.Machine.execCallDueTime line origin code s
  | .flashTimer station => Sys2Proof.Machine.execFlashTimer station s
  | .writeTransferDone => Sys2Proof.Machine.execWriteTransferDone s
  | .blockReadDone => Sys2Proof.Machine.execBlockReadDone s
  | .blockPlayEnd channel => Sys2Proof.Machine.execBlockPlayEnd channel s
  | .passGapTimer channel => Sys2Proof.Machine.execPassGapTimer channel s
  | .secondTick => Sys2Proof.Machine.execSecondTick s
  | .holdTimer => Sys2Proof.Machine.execHoldTimer s
  | .audioSample => Sys2Proof.Machine.execAudioSample s

end Sys2Proof.Machine
end

