-- ==== Sys2Proof/Machine/Step.lean ====
section
/-! DEFINITION. One step of the part: the command at the front of the queue is taken, and where none waits a millisecond of
running time passes. -/

namespace Sys2Proof.Machine

/-- With no command waiting the part idles, and a millisecond of running time passes.
DESIGN CHOICE (log entry 4): the manual gives the part a clock (section 6.3, section 11.2) and its table no row for a
tick. -/
def idle (s : State) : State := { s with time := { s.time with now := s.time.now + 1 } }

/-- The command at the front of the queue is taken and run with the rest of the queue. -/
def step (s : State) : Host.Outcome State Fault Refusal :=
  match s.pending with
  | [] => .next (idle s)
  | i :: rest => exec i { s with pending := rest }

/-- The state with the command that a word spells put at the front of the queue; unchanged where the word spells none. -/
def State.withFetchWord (s : State) (nbits w : Nat) : State :=
  match Sys2Proof.decodeTableWord nbits w with
  | none => s
  | some i => { s with pending := i :: s.pending }

end Sys2Proof.Machine
end

