-- ==== Sys2Proof/Safety.lean ====
section
/-! DEFINITION. The terms in which statements about the part are made: the parts of the state and what a command leaves
unchanged, what a reply is, what one scan accepts and what it brings, what a count pulse moves, which shutter a bridge is
granted to, how dwells end, how a bell line takes rings and answers and what it selects, how announcements enter, start, go
on, yield and stop, what a fire alarm does, what a reset leaves, what the outputs show, the frames found among bytes and those
refused, how the closing programme starts and what its steps do, runs of commands, and the conditions that hold in every state
the part comes to. -/

namespace Sys2Proof.Safety

open Sys2Proof.Machine

/-! ### Parts of the state and frames -/

/-- The parts of the state. `clockwork` is the running time with the scan, conversion and sample instants; `flags` the
link rate and the restart marks; `marks` the two settings flags; `line` the framer, the reply and the dropped-frame flag.
The count of commands taken is in no part: every command but a reset raises it. -/
inductive Part where
  | pending | clockwork | settings | store | loop | fire | shutters | bridges | bells | phrases | announcer | clock
  | programme | events | flags | marks | line | field
deriving DecidableEq, Repr

/-- The part is the same in both states. -/
def Part.same (p : Part) (s t : State) : Prop :=
  match p with
  | .pending => t.pending = s.pending
  | .clockwork =>
    t.time.now = s.time.now ∧ t.time.scanDue = s.time.scanDue ∧ t.time.convDue = s.time.convDue ∧
      t.time.samples = s.time.samples
  | .settings => t.cfg = s.cfg
  | .store => t.store = s.store
  | .loop => t.loop = s.loop
  | .fire => t.fire = s.fire
  | .shutters => t.shutters = s.shutters
  | .bridges => t.bridges = s.bridges
  | .bells => t.bells = s.bells
  | .phrases => t.phrases = s.phrases
  | .announcer => t.ann = s.ann
  | .clock => t.clock = s.clock
  | .programme => t.prog = s.prog
  | .events => t.link.events = s.link.events ∧ t.link.eventsLost = s.link.eventsLost ∧ t.link.lost = s.link.lost
  | .flags =>
    t.link.rate = s.link.rate ∧ t.link.newRate = s.link.newRate ∧ t.link.restarting = s.link.restarting ∧
      t.link.restarted = s.link.restarted
  | .marks => t.link.settingsDefault = s.link.settingsDefault ∧ t.link.settingsChanged = s.link.settingsChanged
  | .line =>
    t.link.closed = s.link.closed ∧ t.link.kept = s.link.kept ∧ t.link.gap = s.link.gap ∧
      t.link.waiting = s.link.waiting ∧ t.link.reply = s.link.reply ∧ t.link.dropped = s.link.dropped ∧
      t.link.dropAgain = s.link.dropAgain
  | .field => t.field = s.field

/-- Every part outside the list is the same in both states. -/
def OnlyChanges (ps : List Part) (s t : State) : Prop := ∀ p : Part, p ∈ ps ∨ p.same s t

/-- What the end of an event may change while no programme is HELD: the grants and a due sweep (R103, R110). -/
def grantParts : List Part := [.shutters, .bridges]

/-- What a closing step may change: the loop, the shutters and their bridges, the bells, the announcements with the
phrases in use, the programme and the event queue (R175 to R179). -/
def stepParts : List Part :=
  [.loop, .shutters, .bridges, .bells, .phrases, .announcer, .programme, .events]

/-- What the end of an event may change: while a programme is HELD, all that its next steps may. -/
def finishParts (held : Bool) : List Part := if held then stepParts else grantParts

/-- The loop with the shutters that follow it: what a change of loop state may change (R26, R78). -/
def loopParts : List Part := [.loop, .shutters, .bridges, .events]

/-- What a shutter's or a bridge's own event may change. -/
def shutterParts : List Part := [.shutters, .bridges, .events]

/-- What an announcement may change. -/
def announcerParts : List Part := [.announcer, .phrases, .events]

/-- All that a reset may change: everything but the commands that wait. -/
def resetParts : List Part :=
  [.clockwork, .settings, .store, .loop, .fire, .shutters, .bridges, .bells, .phrases, .announcer, .clock, .programme,
    .events, .flags, .marks, .line, .field]

/-- All that some request may change, and so a frame that carries one: everything but the commands that wait, the time,
the store memory and the field. -/
def requestParts : List Part :=
  [.settings, .loop, .fire, .shutters, .bridges, .bells, .phrases, .announcer, .clock, .programme, .events, .flags,
    .marks, .line]

/-- What each command may change; `held` says whether a programme is HELD when it comes. -/
def mayChange (held : Bool) : Instr → List Part
  | .powerOn | .resetPin | .replySent => resetParts
  | .serialByteReceived _ => requestParts
  | .frameGapTimer => .clockwork :: requestParts
  | .identify _ | .status _ => [.line]
  | .fetchEvents _ _ => [.line, .events]
  | .clearFaults _ _ _ => .line :: (loopParts ++ finishParts held)
  | .setLinkRate _ _ | .restart _ => [.line, .flags]
  | .saveSettings _ => [.line, .phrases]
  | .defineLoop _ _ _ _ | .defineOpening _ _ _ _ _ => .line :: .settings :: .marks :: (loopParts ++ finishParts held)
  | .defineLoopTiming _ _ => [.line, .settings, .marks]
  | .loopStart _ | .loopDrain _ | .loopStop _ _ | .loopCreep _ => .line :: (loopParts ++ finishParts held)
  | .landingLockout _ _ _ => [.line, .loop]
  | .queryLoop _ | .queryCars _ | .queryLanding _ _ => [.line]
  | .defineZone _ _ _ => [.line, .settings, .marks, .fire]
  | .queryZones _ => [.line]
  | .fireReset _ => .line :: .fire :: .bells :: (shutterParts ++ announcerParts ++ finishParts held)
  | .defineShutter _ _ _ => .line :: .settings :: .marks :: (shutterParts ++ finishParts held)
  | .shutterClose _ _ _ | .shutterOpen _ _ _ | .shutterTest _ _ => .line :: (shutterParts ++ finishParts held)
  | .queryShutter _ _ => [.line]
  | .defineBridges _ _ => [.line, .settings, .marks, .bridges]
  | .queryBridges _ => [.line]
  | .defineCode _ _ _ _ _ | .defineBellTiming _ _ => [.line, .settings, .marks]
  | .defineStation _ _ _ _ => [.line, .settings, .marks, .bells]
  | .bellRing _ _ _ => [.line, .bells, .events]
  | .bellAnswer _ _ _ | .bellSilence _ _ => [.line, .bells]
  | .queryBellLine _ _ _ => [.line]
  | .phraseOpen _ _ _ | .phraseData _ _ _ _ | .phraseClose _ _ | .phraseDelete _ _ => [.line, .phrases]
  | .queryPhrases _ _ => [.line]
  | .defineEvacuation _ _ => .line :: .settings :: .marks :: announcerParts
  | .announce _ _ _ _ | .announceCancel _ _ => .line :: announcerParts
  | .queryAnnouncements _ => [.line]
  | .setClock _ _ _ => .line :: .clock :: stepParts
  | .defineClosingTimes _ _ | .defineStep _ _ _ => .line :: .settings :: .marks :: stepParts
  | .closingStart _ | .closingDelay _ _ | .closingAbort _ => .line :: stepParts
  | .queryClosing _ _ => [.line]
  | .countPulse | .pitchPulse | .datumPulse => loopParts ++ finishParts held
  | .standstillTimer | .windowTimer | .drainTimer | .creepDelayTimer => .clockwork :: (loopParts ++ finishParts held)
  | .scanEvent _ _ => .clockwork :: .field :: .bells :: (loopParts ++ finishParts held)
  | .conversionComplete _ => .clockwork :: .fire :: stepParts
  | .openGraceTimer _ => [.clockwork, .bridges]
  | .travelTimer _ | .retryTimer _ | .pauseTimer _ => .clockwork :: (shutterParts ++ finishParts held)
  | .checkSettingEnd _ _ _ | .dwellTimer _ | .sweepTimer => .clockwork :: (shutterParts ++ finishParts held)
  | .strikerOnTimeEnd _ | .lineTimer _ | .flashTimer _ => [.clockwork, .bells]
  | .callDueTime _ _ _ => [.clockwork, .bells, .events]
  | .writeTransferDone => [.store, .phrases, .line, .events, .marks]
  | .blockReadDone => [.phrases, .announcer]
  | .blockPlayEnd _ => announcerParts
  | .passGapTimer _ => .clockwork :: announcerParts
  | .secondTick => .clockwork :: .clock :: stepParts
  | .holdTimer => .clockwork :: stepParts
  | .audioSample => [.clockwork, .announcer]

/-! ### Requests and replies -/

/-- The kind byte and the tag of a request; none for an event (section 10.3). -/
def kindTag (c : Instr) : Option (Byte × Byte) :=
  match encodeBody c with
  | some (k :: t :: _) => some (k, t)
  | _ => none

/-- A reply with an outcome and a payload has been composed for the request with a kind and a tag, and the framer is
CLOSED (R191, R192). -/
def Replied (kind tag : Byte) (o : ReqOutcome) (payload : List Byte) (t : State) : Prop :=
  t.link.closed = true ∧ t.link.kept = [] ∧ t.link.waiting = none ∧
    ∃ summ, t.link.reply = some { kind := kind ||| 0x80#8, tag, outcome := o, summary := summ, payload }

/-- The reply to the request with a kind and a tag waits for a write, and the framer is CLOSED (R191). -/
def AwaitsWrite (kind tag : Byte) (t : State) : Prop :=
  t.link.closed = true ∧ t.link.kept = [] ∧ t.link.waiting = some (kind, tag)

/-- The bytes of a frame with a body (section 10.2). -/
abbrev frameOf (body : List Byte) : List Byte := frameBytes body

/-- The event is queued before any other the command queues: where the queue has room, its record stands right after those
of `s` (R195). -/
def Queued (kind : EventKind) (subject : Option Nat) (detail : Nat) (s t : State) : Prop :=
  s.link.events.length < 48 →
    (s.link.events ++ [{ kind, subject, detail := detail % 65536, time := clockTime s }]) <+: t.link.events

/-- The event is queued by the command, with the clock as it then stands; said where no record is lost. -/
def Records (kind : EventKind) (subject : Option Nat) (detail : Nat) (s t : State) : Prop :=
  t.link.events.length < 48 →
    ∃ es, (s.link.events ++ es ++ [{ kind, subject, detail := detail % 65536, time := clockTime t }]) <+: t.link.events

/-- A setting has been changed by an accepted define request, and the settings source is as it was (R199). -/
def MarkedChanged (s t : State) : Prop :=
  t.link.settingsChanged = true ∧ t.link.settingsDefault = s.link.settingsDefault

/-- Target phase `q`, at distance `d` ahead of phase `p`, is the nearest of the clear list that lies at least `b` counts
ahead (R43, R48). -/
def Nearest (g : Geometry) (p b q d : Nat) : Prop :=
  q ∈ g.clearList ∧ (p + d) % 256 = q ∧ b ≤ d ∧ ∀ r e, r ∈ g.clearList → (p + e) % 256 = r → b ≤ e → d ≤ e

/-! ### What one scan accepts, and what the blocks do with it -/

/-- A good scan that reads `v` accepts input `p`: it and the good scan before it read the input alike, and the input
awaits fresh acceptance, or its accepted value is another or none (R205, R207). -/
def Accepts (v : BitVec 256) (s : State) (p : Nat) : Prop :=
  (s.field.inputs.get p).raw = some (v.getLsbD p) ∧
    ((s.field.inputs.get p).awaiting = true ∨ (s.field.inputs.get p).accepted ≠ some (v.getLsbD p))

/-- The accepted value of input `p` changes to `b` at that scan. -/
def Turns (v : BitVec 256) (s : State) (p : Nat) (b : Bool) : Prop :=
  v.getLsbD p = b ∧ (s.field.inputs.get p).raw = some b ∧ (s.field.inputs.get p).accepted = some (!b)

/-- The accepted value of input `p` after that scan. -/
def acceptedAfter (v : BitVec 256) (s : State) (p : Nat) : Option Bool :=
  if (s.field.inputs.get p).raw = some (v.getLsbD p) then some (v.getLsbD p) else (s.field.inputs.get p).accepted

/-- FIELD_LOST is clear, no closing programme is HELD, and the scan accepts no input but those listed. -/
def AcceptsOnly (v : BitVec 256) (s : State) (ps : List Nat) : Prop :=
  s.field.lost = false ∧ s.prog.st ≠ .held ∧ ∀ p < 256, Accepts v s p → p ∈ ps

/-- The running time after a scan (log entry 6). -/
def scanTime (s : State) : Nat := max s.time.now s.time.scanDue

/-- R49, R50: a landing stop button or a turn flap accepted as active, fresh and first acceptances included, brings the
loop to FAULT_STOP with its cause and subject, but for an UNCONFIGURED loop and one in FAULT_STOP already. -/
def StopInputsFault : Prop :=
  ∀ (v : BitVec 256) (p n : Nat) (cause : LoopCause) (s : State), s.field.lost = false → s.prog.st ≠ .held →
    (n < 8 ∧ n < s.cfg.geom.landings ∧ p = 48 + n ∧ cause = .landingStop ∨
      n < 2 ∧ p = 56 + n ∧ cause = .turnFlap) →
    Accepts v s p → v.getLsbD p = true →
    ∃ t, exec (.scanEvent v 0x5A3C#16) s = .next t ∧
      (s.loop.st ≠ .unconfigured → s.loop.st ≠ .faultStop →
        t.loop.st = .faultStop ∧ t.loop.refValid = false ∧ contactorClosed t = false ∧
          (AcceptsOnly v s [p] →
            t.loop.fault = some { cause, subject := some n } ∧ Queued .loopFault (some n) cause.code s t)) ∧
      (s.loop.st = .unconfigured ∨ s.loop.st = .faultStop → AcceptsOnly v s [p] →
        t.loop.st = s.loop.st ∧ t.loop.fault = s.loop.fault ∧ t.link.events = s.link.events)

/-- R14, R15: an active edge of the sill sensor of a watched opening: while PARKED, or away from the entry phase, it is
SILL_MISMATCH (7); within the phase tolerance it makes an ARMED watch MET; with the reference NONE it is not checked. -/
def SillEdgesAreChecked : Prop :=
  ∀ (v : BitVec 256) (o entry : Nat) (x : Opening) (s : State), (o, x) ∈ s.cfg.geom.watched →
    AcceptsOnly v s [sillPoint o] → Turns v s (sillPoint o) true →
    entry = (x.sill + 256 - x.below % 256) % 256 →
    let near : Prop := ∃ k, k ≤ s.cfg.timing.pTol ∧
      ((s.loop.c + k) % 256 = entry ∨ (entry + k) % 256 = s.loop.c % 256)
    ∃ t, exec (.scanEvent v 0x5A3C#16) s = .next t ∧
      (s.loop.refValid = false →
        t.loop.watches = s.loop.watches ∧ t.loop.st = s.loop.st ∧ t.loop.fault = s.loop.fault) ∧
      (s.loop.refValid = true → s.loop.st ≠ .parked → near →
        t.loop.st = s.loop.st ∧ t.loop.fault = s.loop.fault ∧ t.loop.refValid = true ∧
          t.loop.watches.get o = (if s.loop.watches.get o = .armed then .met else s.loop.watches.get o) ∧
          ∀ q < 16, q ≠ o → t.loop.watches.get q = s.loop.watches.get q) ∧
      (s.loop.refValid = true → s.loop.st = .parked ∨ ¬ near → s.loop.st ≠ .unconfigured → s.loop.st ≠ .faultStop →
        t.loop.st = .faultStop ∧ t.loop.fault = some { cause := .sillMismatch, subject := some o } ∧
          t.loop.refValid = false ∧ contactorClosed t = false ∧ Queued .loopFault (some o) 7 s t)

/-- R17, R18: the curtain recogniser of a watched opening: a break in REST starts a recording, a change is appended with
the snapshot taken at the first inner break, a fifth change or two changes at one scan abandon it, and two clear beams
end it or end WAIT_CLEAR. -/
def BeamsAreRecorded : Prop :=
  ∀ (v : BitVec 256) (o : Nat) (x : Opening) (s : State), (o, x) ∈ s.cfg.geom.watched →
    (∀ (inner b : Bool) (p q : Nat), (p, q) = (if inner then (32 + o, 16 + o) else (16 + o, 32 + o)) →
      AcceptsOnly v s [p] → Turns v s p b →
      let clear : Bool := !b && decide ((s.field.inputs.get q).accepted = some false) && !(s.field.inputs.get q).awaiting
      let snap (old : Snapshot) : Snapshot :=
        if inner = true ∧ b = true ∧ old = .notTaken then
          if s.loop.refValid then
            match occupantOf s o with
            | some k => .car k
            | none => .noCar
          else .unreferenced
        else old
      ∃ t, exec (.scanEvent v 0x5A3C#16) s = .next t ∧
        t.loop.recognisers.get o =
          (match s.loop.recognisers.get o with
           | .waitClear => if clear then .rest else .waitClear
           | .rest => if b then .recording [⟨inner, true⟩] (snap .notTaken) else .rest
           | .recording es old =>
             if 4 ≤ es.length then .waitClear
             else if clear then .rest
             else .recording (es ++ [⟨inner, b⟩]) (snap old))) ∧
    (∀ b c : Bool, AcceptsOnly v s [16 + o, 32 + o] → Turns v s (16 + o) b → Turns v s (32 + o) c →
      ∃ t, exec (.scanEvent v 0x5A3C#16) s = .next t ∧ t.loop.recognisers.get o = .waitClear ∧
        t.loop.cars = s.loop.cars ∧ t.link.events = s.link.events)

/-- R17, R18, R19, R40: the beam change that ends an ENTER or an EXIT charges the crossing by its snapshot: to its car, to
no car with CROSSING_UNATTRIBUTED (1 ENTER, 2 EXIT), or as the loop fault SHAFT_CROSSING (8) where no car stood. An ENTER
on two is OVERLOAD, and an ENTER starts the drain revolutions anew. -/
def CrossingsAreCharged : Prop :=
  ∀ (v : BitVec 256) (o p q : Nat) (x : Opening) (enter : Bool) (es : List BeamChange) (snap : Snapshot) (s : State),
    (o, x) ∈ s.cfg.geom.watched →
    (enter, p, q, es) ∈
      [(true, 32 + o, 16 + o, [⟨false, true⟩, ⟨true, true⟩, ⟨false, false⟩]),
       (false, 16 + o, 32 + o, [⟨true, true⟩, ⟨false, true⟩, ⟨true, false⟩])] →
    s.loop.recognisers.get o = .recording es snap → AcceptsOnly v s [p] → Turns v s p false →
    (s.field.inputs.get q).accepted = some false → (s.field.inputs.get q).awaiting = false →
    ∃ t, exec (.scanEvent v 0x5A3C#16) s = .next t ∧ t.loop.recognisers.get o = .rest ∧
      (∀ k n, snap = .car k → s.loop.cars[k]? = some (.count n) → n ≤ 2 →
        t.loop.cars = s.loop.cars.set k (.count (if enter then min 2 (n + 1) else n - 1)) ∧
          (enter = true → n = 2 → Queued .overload (some k) o s t) ∧
          (enter = true → n < 2 → t.link.events = s.link.events)) ∧
      (∀ k, snap = .car k → s.loop.cars[k]? = some .unknown → t.loop.cars = s.loop.cars) ∧
      (∀ k d, snap = .car k → enter = true → s.loop.st = .draining → s.loop.drain = some d →
        t.loop.st = .draining ∧ t.loop.drain = some { d with travel := 0, revs := 0, drained := false }) ∧
      (snap = .unreferenced →
        t.loop.cars = s.loop.cars ∧ t.loop.st = s.loop.st ∧
          Queued .crossingUnattributed (some o) (if enter then 1 else 2) s t) ∧
      (snap = .noCar → s.loop.st ≠ .unconfigured → s.loop.st ≠ .faultStop →
        t.loop.st = .faultStop ∧ t.loop.fault = some { cause := .shaftCrossing, subject := some o } ∧
          t.loop.refValid = false ∧ contactorClosed t = false ∧ Queued .loopFault (some o) 8 s t)

/-- The motion state the accepted values of the top and the bottom limit give (R71). -/
def motionOf : Bool → Bool → Motion
  | true, false => .open
  | false, true => .closed
  | _, _ => .stoppedMid

/-- R71 to R73, R95: a change of the limits of a shutter that is not driven: the motion state is taken from them; both
active is LIMITS_BOTH (9), a limit lost is LIMIT_LOST (8), and either ends a HOST or CLOSING demand; a shutter of kind
OPENING that leaves OPEN under a closed contactor is SHUTTER_INTRUSION, which comes after the shutter's fault (log entry
65). A first acceptance is no change. -/
def LimitsAtRestAreTaken : Prop :=
  ∀ (v : BitVec 256) (i p : Nat) (d : ShutterDef) (top bottom : Bool) (s : State), i < 24 →
    s.cfg.shutters.get i = some d → (shutterAt s i).motion.driven = false →
    AcceptsOnly v s [topLimitPoint i, bottomLimitPoint i] →
    acceptedAfter v s (topLimitPoint i) = some top → acceptedAfter v s (bottomLimitPoint i) = some bottom →
    p = topLimitPoint i ∨ p = bottomLimitPoint i →
    ((s.field.inputs.get (topLimitPoint i)).accepted.isSome = true →
      (s.field.inputs.get (bottomLimitPoint i)).accepted.isSome = true → (∃ b, Turns v s p b) →
      ∃ t, exec (.scanEvent v 0x5A3C#16) s = .next t ∧ (shutterAt t i).motion = motionOf top bottom ∧
        let fault : Option CheckResult :=
          if top = true ∧ bottom = true then some .limitsBoth
          else if (shutterAt s i).motion = .stoppedMid ∨ (shutterAt s i).motion = motionOf top bottom then none
          else some .limitLost
        (fault = none → (shutterAt t i).fault = (shutterAt s i).fault) ∧
        (∀ f, fault = some f →
          (shutterAt t i).fault = some f ∧ Queued .shutterFault (some i) f.code s t ∧
            ∀ e, demandOf t i = some e → e.cls = .fire) ∧
        ((shutterAt s i).motion = .open → motionOf top bottom ≠ .open → d.kind = .opening → d.opening.isSome = true →
          contactorClosed s = true →
          t.loop.st = .faultStop ∧ t.loop.fault = some { cause := .shutterIntrusion, subject := some i } ∧
            contactorClosed t = false)) ∧
    ((s.field.inputs.get p).accepted = none → (shutterAt s i).motion = .stoppedMid →
      ∃ t, exec (.scanEvent v 0x5A3C#16) s = .next t ∧ (shutterAt t i).motion = motionOf top bottom ∧
        if top = true ∧ bottom = true then
          (shutterAt t i).fault = some .limitsBoth ∧ Queued .shutterFault (some i) 9 s t
        else (shutterAt t i).fault = (shutterAt s i).fault ∧ t.link.events = s.link.events)

/-- R81, R82, R85, R86, R108: the limits of a driven shutter: at the limit of its direction the drive stops, the bridge
dwells and the demand ends, or a CLOSING recovery waits for its retry or ends in OBSTRUCTION_RETRIES (7); both limits
active end the travel with LIMITS_BOTH (9); a change of the other limit alone ends nothing. -/
def LimitsEndTheTravel : Prop :=
  ∀ (v : BitVec 256) (i b now : Nat) (d : Demand) (df : ShutterDef) (raise top bottom : Bool) (sr op : Nat)
    (g : Option Nat) (s : State), i < 24 → s.cfg.shutters.get i = some df → demandOf s i = some d →
    bridgeOf s i = some b → (bridgeAt s b).st = .driving raise sr op g →
    (shutterAt s i).motion = (if raise then .raising else .lowering) → now = scanTime s →
    AcceptsOnly v s [topLimitPoint i, bottomLimitPoint i] →
    acceptedAfter v s (topLimitPoint i) = some top → acceptedAfter v s (bottomLimitPoint i) = some bottom →
    let target : Nat := if raise then topLimitPoint i else bottomLimitPoint i
    let other : Nat := if raise then bottomLimitPoint i else topLimitPoint i
    let stopped (t : State) : Prop :=
      (bridgeAt t b).st = .dwell (some (now + s.cfg.bridges.dwell)) false true ∧ (shutterAt t i).travel = none ∧
        (shutterAt t i).motion = motionOf top bottom
    (Turns v s target true → ¬(top = true ∧ bottom = true) → d.status = .moving →
      d.dir = (if raise then .open else .close) →
      ∃ t, exec (.scanEvent v 0x5A3C#16) s = .next t ∧ stopped t ∧ demandOf t i = none ∧
        (shutterAt t i).fault = (shutterAt s i).fault ∧
        Queued (if raise then .shutterOpened else .shutterClosed) (some i) d.cls.code s t) ∧
    (Turns v s target true → ¬(top = true ∧ bottom = true) → d.status = .recovering → raise = true → d.cls ≠ .fire →
      ∃ t, exec (.scanEvent v 0x5A3C#16) s = .next t ∧ stopped t ∧ Queued .shutterOpened (some i) d.cls.code s t ∧
        if d.cls = .host then demandOf t i = none ∧ (shutterAt t i).fault = (shutterAt s i).fault
        else if (shutterAt s i).obstructions ≤ df.retryLimit then
          demandOf t i = some { d with status := .retryWait } ∧
            (shutterAt t i).retry = some (now + 1000 * df.retryDelay) ∧
            (shutterAt t i).fault = (shutterAt s i).fault
        else demandOf t i = none ∧ (shutterAt t i).fault = some .obstructionRetries) ∧
    (Turns v s target true ∨ Turns v s other true → top = true → bottom = true →
      ∃ t, exec (.scanEvent v 0x5A3C#16) s = .next t ∧ stopped t ∧ demandOf t i = none ∧
        (shutterAt t i).fault = some .limitsBoth ∧ Queued .shutterFault (some i) 9 s t) ∧
    (AcceptsOnly v s [other] → (∃ x, Turns v s other x) → ¬(top = true ∧ bottom = true) →
      ∃ t, exec (.scanEvent v 0x5A3C#16) s = .next t ∧ shutterAt t i = shutterAt s i ∧
        bridgeAt t b = bridgeAt s b ∧ t.link.events = s.link.events)

/-- R84 to R87: the safety edge, and for kind OPENING the sill sensor, becoming active is an obstruction of a lowering
shutter and of no other: the drive stops, the count rises, a HOST or CLOSING demand recovers, and a FIRE demand pauses
with its bridge held, or ends in OBSTRUCTION_RETRIES past its pause limit. -/
def EdgesObstructALowering : Prop :=
  ∀ (v : BitVec 256) (i p now cause : Nat) (df : ShutterDef) (s : State), i < 24 → s.cfg.shutters.get i = some df →
    now = scanTime s →
    (p = edgePoint i ∧ cause = 0 ∨ ∃ o, df.kind = .opening ∧ df.opening = some o ∧ o < 16 ∧ p = sillPoint o ∧ cause = 1) →
    AcceptsOnly v s [p] → Turns v s p true →
    (∀ (b sr op : Nat) (g : Option Nat) (d : Demand), demandOf s i = some d → d.dir = .close → bridgeOf s i = some b →
      (bridgeAt s b).st = .driving false sr op g → (shutterAt s i).motion = .lowering → d.status = .moving →
      ∃ t, exec (.scanEvent v 0x5A3C#16) s = .next t ∧ (shutterAt t i).motion = limitsMotion s i ∧
        (shutterAt t i).travel = none ∧ (shutterAt t i).obstructions = (shutterAt s i).obstructions + 1 ∧
        (cause = 0 → Queued .shutterObstructed (some i) (256 * ((shutterAt s i).obstructions + 1)) s t) ∧
        if d.cls ≠ .fire then
          demandOf t i = some { d with status := .recovering } ∧ (shutterAt t i).fault = (shutterAt s i).fault ∧
            (bridgeAt t b).st = .dwell (some (now + s.cfg.bridges.dwell)) false true
        else if (shutterAt s i).obstructions + 1 ≤ (if d.single then 0 else df.pauseLimit) then
          demandOf t i = some { d with status := .paused } ∧ (shutterAt t i).fault = (shutterAt s i).fault ∧
            (shutterAt t i).pause = some (now + 1000 * df.firePause) ∧
            (bridgeAt t b).st = .dwell (some (now + s.cfg.bridges.dwell)) true true
        else
          demandOf t i = none ∧ (shutterAt t i).fault = some .obstructionRetries ∧
            (bridgeAt t b).st = .dwell (some (now + s.cfg.bridges.dwell)) false true) ∧
    ((shutterAt s i).motion ≠ .lowering →
      ∃ t, exec (.scanEvent v 0x5A3C#16) s = .next t ∧ (shutterAt t i).motion = (shutterAt s i).motion ∧
        (shutterAt t i).obstructions = (shutterAt s i).obstructions ∧ (shutterAt t i).fault = (shutterAt s i).fault ∧
        (cause = 0 → t.link.events = s.link.events))

/-- R119 to R121, R127: a press of a station raises its call, creates it with the lamp PENDING, or is refused with a flash
of the lamp, and under fire it only flashes; an attend removes the station's calls and sets its lamp OFF; a first or a
fresh acceptance and an inactive edge do nothing. -/
def PressesAndAttendsAreTaken : Prop :=
  ∀ (v : BitVec 256) (n now l c : Nat) (cd : CodeDef) (s : State), n < 48 → l < 8 →
    s.cfg.stations.get n = some { line := l, code := c } → s.cfg.codes.get c = some cd → now = scanTime s →
    let flash : Tab 48 Lamp := s.bells.lamps.put n { steady := (s.bells.lamps.get n).steady, flash := some (now + 3000) }
    (AcceptsOnly v s [144 + n] → Turns v s (144 + n) true → (s.field.inputs.get (144 + n)).awaiting = false →
      ∃ t, exec (.scanEvent v 0x5A3C#16) s = .next t ∧ (∀ k < 8, k ≠ l → lineAt t k = lineAt s k) ∧
        if s.fire.latch then t.bells = { s.bells with lamps := flash } ∧ t.link.events = s.link.events
        else
          match (lineAt s l).queue.find? (fun y => decide (y.origin = .station n ∧ y.code = c)) with
          | some _ =>
            t.link.events = s.link.events ∧ t.bells.lamps = s.bells.lamps ∧
              lineAt t l =
                { lineAt s l with
                  queue := (lineAt s l).queue.map (fun y =>
                    if y.origin = .station n ∧ y.code = c then { y with urgency := min 3 (y.urgency + 1) } else y) }
          | none =>
            if (lineAt s l).queue.length < 8 then
              t.link.events = s.link.events ∧ (t.bells.lamps.get n).steady = .pending ∧
                (t.bells.lamps.get n).flash = (s.bells.lamps.get n).flash ∧
                (∃ y ∈ (lineAt t l).queue,
                  y.origin = .station n ∧ y.code = c ∧ y.urgency = cd.urgency ∧ y.repeats = 0 ∧ y.raisedAt = now) ∧
                ((lineAt s l).st ≠ .idle →
                  ∃ y : Call, y.st = .waiting ∧ lineAt t l = { lineAt s l with queue := (lineAt s l).queue ++ [y] })
            else t.bells = { s.bells with lamps := flash } ∧ Queued .callRefused (some l) (n + 256 * c) s t) ∧
    (AcceptsOnly v s [192 + n] → Turns v s (192 + n) true → (s.field.inputs.get (192 + n)).awaiting = false →
      ∃ t, exec (.scanEvent v 0x5A3C#16) s = .next t ∧ t.link.events = s.link.events ∧
        (∀ k < 8, k ≠ l → lineAt t k = lineAt s k) ∧ (t.bells.lamps.get n).steady = .off ∧
        (lineAt t l).queue = (lineAt s l).queue.filter (fun y => !decide (y.origin = .station n)) ∧
        ((∀ y ∈ (lineAt s l).queue, y.origin = .station n → y.st ≠ .sounding true ∧ y.st ≠ .sounding false) →
          lineAt t l = { lineAt s l with queue := (lineAt t l).queue }) ∧
        (∀ y b, y ∈ (lineAt s l).queue → y.origin = .station n → y.st = .sounding b → (lineAt s l).pending = none →
          (lineAt t l).st = .gap ∧ (lineAt t l).pattern = [] ∧ (lineAt t l).striker = (lineAt s l).striker)) ∧
    (AcceptsOnly v s [144 + n, 192 + n] →
      (∀ p, p = 144 + n ∨ p = 192 + n → Accepts v s p →
        (s.field.inputs.get p).awaiting = true ∨ (s.field.inputs.get p).accepted = none ∨ v.getLsbD p = false) →
      ∃ t, exec (.scanEvent v 0x5A3C#16) s = .next t ∧ t.bells = s.bells ∧ t.link.events = s.link.events)

/-! ### Count pulses -/

/-- R7, R14, R39 to R41, R46, R48: a count pulse that leaves no ARMED watch behind (R14): the watches it arms and ends;
the drain travel and the revolutions of a drain, with DRAIN_DONE 1 at the first that makes the count at least R_drain (log
entry 26); the end of a creep; and the drift of a PARKED loop onto a forbidden phase. -/
def CountPulsesMoveTheLoop : Prop :=
  ∀ (s : State) (d : Dims) (c : Nat), s.prog.st ≠ .held → s.cfg.geom.dims = some d → 1 ≤ d.n →
    c = (s.loop.c + 1) % (256 * d.n) →
    let entry (x : Opening) : Nat := (x.sill + 256 - x.below % 256) % 256
    let arms (x : Opening) : Prop := c % 256 = (entry x + 256 - s.cfg.timing.pTol % 256) % 256
    let ends (x : Opening) : Prop := c % 256 = (entry x + s.cfg.timing.pTol + 1) % 256
    (∀ o x, (o, x) ∈ s.cfg.geom.watched → s.loop.refValid = true → s.loop.watches.get o = .armed → ¬ ends x) →
    ∃ t, exec .countPulse s = .next t ∧
      (∀ o x, (o, x) ∈ s.cfg.geom.watched →
        t.loop.watches.get o =
          if s.loop.refValid = false then s.loop.watches.get o
          else if arms x then .armed
          else if ends x then .idle
          else s.loop.watches.get o) ∧
      (∀ r, s.loop.st = .draining → s.loop.drain = some r → r.drained = false →
        let moved (r' : Drain) : Prop :=
          t.link.events = s.link.events ∧
            t.loop =
              { s.loop with
                c, standstill := false, standTimer := some (s.time.now + s.cfg.timing.standstill)
                watches := t.loop.watches, drain := some r' }
        if r.travel + 1 < 256 * d.n then moved { r with travel := r.travel + 1 }
        else if r.revs + 1 < s.cfg.timing.rDrain then moved { r with travel := 0, revs := r.revs + 1 }
        else
          t.loop.cars = s.loop.cars.map (fun o => if o = .unknown then .count 0 else o) ∧ t.loop.drainTimer = none ∧
            Queued .drainDone none 1 s t ∧
            if r.stopPending then t.loop.drain = none ∧ (t.loop.st = .stopping ∨ t.loop.st = .braking)
            else
              t.loop.st = .draining ∧
                t.loop.drain = some { r with travel := 0, revs := r.revs + 1, drained := true }) ∧
      (∀ (p : CreepPlan) (r : Int), s.loop.st = .creeping → s.loop.creepPlan = some p →
        r = ((p.target : Int) - c) % (256 * d.n) →
        t.loop.creepPlan = some p ∧
          if (if r > 256 * d.n - 256 then r - 256 * d.n else r) ≤ s.cfg.timing.creepStop then
            t.loop.st = .braking ∧ t.loop.window = none ∧ contactorClosed t = false
          else t.loop.st = .creeping) ∧
      (s.loop.st = .parked →
        let stands (o : Nat) : Prop := ∃ x, s.cfg.geom.openings.get o = some x ∧ x.forbids (c % 256) = true
        ((∀ o < 16, ¬ stands o) →
          t.loop.st = .parked ∧ t.loop.fault = s.loop.fault ∧ t.link.events = s.link.events) ∧
        ∀ o < 16, stands o → (∀ q < o, ¬ stands q) →
          t.loop.st = .stoppedFoul ∧ t.loop.fault = s.loop.fault ∧ Queued .loopFoul (some o) (stopErrorDetail none) s t ∧
            t.loop.attempts = s.loop.attempts ∧ t.loop.lastError = s.loop.lastError ∧
            if s.loop.attempts < s.cfg.timing.creepLimit then
              t.loop.exhausted = false ∧ t.loop.creepDelay = some (s.time.now + 1000 * s.cfg.timing.creepDelay)
            else t.loop.exhausted = true ∧ t.loop.creepDelay = none)

/-! ### Dwells and stalls -/

/-- The terminals of a bridge stand as in REST, LIFT_A and LIFT_B, in that order (R105). -/
def checkOutput : Nat → BridgeOutput
  | 0 => .test false false
  | 1 => .test true false
  | _ => .test false true

/-! ### The grant queue (R101 to R104, R112, R113) -/

/-- R102, R103: shutter `j` waits for a bridge, and is connected to none, or to no other than the bridge `b`. -/
def Waiting (b : Option Nat) (s : State) (j : Nat) : Prop :=
  j < 24 ∧ (∃ d, demandOf s j = some d ∧ d.status = .waitingBridge) ∧
    ∀ f < 4, b ≠ some f → (bridgeAt s f).shutter ≠ some j

/-- R102: shutter `i` stands before shutter `j` in the grant queue: FIRE demands first, then by priority, by the time of
placement (log entry 5) and by id. -/
def GrantedBefore (s : State) (i j : Nat) : Prop :=
  let fire (k : Nat) : Bool := (demandOf s k).any (fun d => decide (d.cls = .fire))
  let priority (k : Nat) : Nat := ((s.cfg.shutters.get k).map ShutterDef.priority).getD 0
  let placed (k : Nat) : Nat := ((demandOf s k).map Demand.placedSeq).getD 0
  fire i = true ∧ fire j = false ∨
    fire i = fire j ∧ (priority i < priority j ∨ priority i = priority j ∧
      (placed i < placed j ∨ placed i = placed j ∧ i < j))

/-- R103: the demand of shutter `i`, which is connected to no bridge and is not of class FIRE, has been offered a bridge
with the purpose `p`: it waits while FIELD_LOST is set or no bridge is FREE, and where no other waits its check begins on
the lowest-numbered FREE bridge. -/
def OfferedABridge (p : Purpose) (i now : Nat) (s t : State) : Prop :=
  let status : Option DemandStatus := (demandOf t i).map Demand.status
  (s.field.lost = true ∨ (∀ f < 4, (bridgeAt s f).st ≠ .free) → status = some .waitingBridge) ∧
  ∀ f < 4, s.field.lost = false → (∀ j, ¬ Waiting none s j) → (bridgeAt s f).st = .free →
    (∀ g < f, (bridgeAt s g).st ≠ .free) →
    status = some .checking ∧
      bridgeAt t f = { bridgeAt s f with st := .checking p [] (now + 30), shutter := some i }

/-- R101 to R103, R113: the connection of bridge `b` is broken, whose record is else `r`. A withdrawn bridge is
OUT_OF_SERVICE, with BRIDGE_OUT; withdrawal pending is then clear (log entry 51). Another is FREE with nothing to serve,
and otherwise begins the check of the shutter that stands first in the grant queue, where no lower bridge is FREE. -/
def BridgeGoesOn (b now : Nat) (r : Bridge) (s t : State) : Prop :=
  (∀ x y, r.withdrawn = some (x, y) →
    bridgeAt t b = { r with st := .outOfService, shutter := none, withdrawn := none } ∧
      Records .bridgeOut (some b) (x + 256 * y) s t) ∧
  (r.withdrawn = none →
    (s.field.lost = true ∨ (∀ j, ¬ Waiting (some b) s j) ∧ s.bridges.sweepDue = false →
      bridgeAt t b = { r with st := .free, shutter := none }) ∧
    ∀ j d, s.field.lost = false → Waiting (some b) s j →
      (∀ k, Waiting (some b) s k → k = j ∨ GrantedBefore s j k) → (∀ f < b, (bridgeAt s f).st ≠ .free) →
      demandOf s j = some d →
      bridgeAt t b =
          { r with st := .checking (if d.dir = .test then .test else .preTravel) [] (now + 30), shutter := some j } ∧
        demandOf t j = some { d with status := .checking })

/-- R112: the suspicion record of a bridge that held `held`, after a check of shutter `i` with the result `r`. -/
def suspectAfter (held : Option Nat) (i : Nat) (r : CheckResult) : Option Nat :=
  if r = .normal then none
  else if r = .shortSupply ∨ r = .shortGround ∨ r = .unclassified then
    match held with
    | none => some i
    | some j => if j = i then some j else none
  else held

/-- R112, R113: the two shutters whose suspect results withdraw the bridge, the one held first. -/
def withdrawnAfter (x : Bridge) (i : Nat) (r : CheckResult) : Option (Nat × Nat) :=
  match x.suspect with
  | none => x.withdrawn
  | some j =>
    if (r = .shortSupply ∨ r = .shortGround ∨ r = .unclassified) ∧ j ≠ i then some (j, i) else x.withdrawn

/-- R78, R79, R83, R85, R86, R101, R103, R108, R113: a dwell that ends under a demand. A DWELLING demand that is at its target ends, one
to open drives upward, and one to close drives downward or is held by the loop; a RECOVERING demand drives upward, or,
at the top, ends or waits for its retry. A bridge that no drive takes is freed (`BridgeGoesOn`), also where its own
shutter waits for a bridge or is held, which were passed over until then (R103). Where the bridge is withdrawn too,
BRIDGE_OUT comes before SHUTTER_HELD and before the SHUTTER_OPENED of a recovery (log entry 80). -/
def DwellsEndUnderTheirDemands : Prop :=
  ∀ (b : Fin 4) (due now i : Nat) (d : Demand) (df : ShutterDef) (travelled : Bool) (s : State), s.prog.st ≠ .held →
    now = max s.time.now due → (bridgeAt s b).st = .dwell (some due) false travelled → bridgeOf s i = some b.val →
    i < 24 → s.cfg.shutters.get i = some df → demandOf s i = some d →
    let x : Shutter := shutterAt s i
    ∃ t, exec (.dwellTimer b) s = .next t ∧ t.time.now = now ∧
      let freed : Prop := BridgeGoesOn b now (bridgeAt s b) s t
      let drives (raise : Bool) (status : DemandStatus) : Prop :=
        t.link.events = s.link.events ∧
          shutterAt t i =
            { x with
              motion := if raise then .raising else .lowering, travel := some (now + 1000 * df.travel)
              demand := some { d with status } } ∧
          bridgeAt t b = { bridgeAt s b with st := .driving raise 0 0 (some (now + s.cfg.bridges.grace)) }
      (d.status = .dwelling → d.dir = .close ∧ x.motion = .closed ∨ d.dir = .open ∧ x.motion = .open →
        demandOf t i = none ∧ (shutterAt t i).motion = x.motion ∧ freed ∧
          Queued (if d.dir = .open then .shutterOpened else .shutterClosed) (some i) d.cls.code s t) ∧
      (d.status = .dwelling → d.dir = .open → x.motion ≠ .open → drives true .moving) ∧
      (d.status = .dwelling → d.dir = .close → x.motion ≠ .closed → interlockFails s i = none →
        active s (edgePoint i) = false → drives false .moving) ∧
      (∀ k, d.status = .dwelling → d.dir = .close → x.motion ≠ .closed → interlockFails s i = some k →
        demandOf t i = some { d with status := .heldByLoop } ∧ freed ∧
          ((bridgeAt s b).withdrawn = none → Queued .shutterHeld (some i) k s t)) ∧
      (d.status ∈ [.waitingBridge, .heldByLoop, .retryWait] → freed ∧ (shutterAt t i).motion = x.motion) ∧
      (d.status = .recovering → x.motion ≠ .open → drives true .recovering) ∧
      (d.status = .recovering → x.motion = .open →
        freed ∧ ((bridgeAt s b).withdrawn = none → Queued .shutterOpened (some i) d.cls.code s t) ∧
          if d.cls = .closing then
            if x.obstructions ≤ df.retryLimit then
              demandOf t i = some { d with status := .retryWait } ∧ (shutterAt t i).fault = x.fault ∧
                (shutterAt t i).retry = some (now + 1000 * df.retryDelay)
            else demandOf t i = none ∧ (shutterAt t i).fault = some .obstructionRetries
          else demandOf t i = none ∧ (shutterAt t i).fault = x.fault)

/-! ### Calls that a line selects, and closing strokes -/

/-- R124: the call may be selected: it is WAITING, or its due time has been taken. -/
def MaySound (c : Call) : Prop := c.st = .waiting ∨ c.st = .awaitingRepeat ∧ c.dueTaken = true

/-- R124: call `y` is selected before call `z`: higher urgency, then earlier raised (log entry 5), then stations in
ascending number before LINK, then calls from LINK in ascending code. -/
def GoesBefore (y z : Call) : Prop :=
  z.urgency < y.urgency ∨ z.urgency = y.urgency ∧ (y.raisedSeq < z.raisedSeq ∨ y.raisedSeq = z.raisedSeq ∧
    (originCode y.origin < originCode z.origin ∨ originCode y.origin = originCode z.origin ∧ y.code < z.code))

/-- R123 to R125: line `l`, IDLE with the record `x` at the time `now`, has selected what to sound: with no call that may
sound it stays IDLE; otherwise the call that goes first is SOUNDING, and its code's first stroke begins, or waits for the
end of an on-time in progress with the phase OFF (log entry 68). -/
def Selects (l now : Nat) (x : Line) (s t : State) : Prop :=
  ((∀ y ∈ x.queue, ¬ MaySound y) → lineAt t l = { x with st := .idle }) ∧
  ∀ y d, y ∈ x.queue → MaySound y →
    (∀ z ∈ x.queue, MaySound z → GoesBefore y z ∨ z.origin = y.origin ∧ z.code = y.code) →
    s.cfg.codes.get y.code = some d →
    let u : Line :=
      { x with
        st := .call, pattern := d.groups, group := 0, stroke := 0, left := 0, timer := none
        queue := x.queue.map (fun z =>
          if z.origin = y.origin ∧ z.code = y.code then { z with st := .sounding (decide (z.st = .awaitingRepeat)) }
          else z) }
    lineAt t l =
      if x.striker = none then { u with on := true, striker := some (now + s.cfg.bells.onTime), deferred := false }
      else { u with on := false, deferred := true }

/-- R123, R131: line `l` with the record `x` has taken `n` closing strokes at the time `now`: the first begins, or waits
for the end of an on-time in progress. The position is group 0, stroke 0, phase OFF (log entry 69). -/
def TakesStrokes (l now n : Nat) (x : Line) (s t : State) : Prop :=
  let u : Line :=
    { x with st := .strokes, pattern := [], group := 0, stroke := 0, on := false, left := n, pending := none }
  lineAt t l =
    if x.striker = none then
      { u with timer := some (now + 1000), striker := some (now + s.cfg.bells.onTime), deferred := false }
    else { u with timer := none, deferred := true }

/-- R121, R122: what a ring from LINK finds on line `l`: 1, a call of the code that it raises; 0, room for a call that it
creates; 2, a full queue (log entry 9). -/
def ringAnswer (c : Nat) (s : State) (l : Nat) : Nat :=
  if (lineAt s l).queue.any (fun y => decide (y.origin = .link ∧ y.code = c)) then 1
  else if (lineAt s l).queue.length < 8 then 0
  else 2

/-- R121, R122, R124: what a ring from LINK with the code `c`, defined as `d`, does to line `l`: it raises the call that is
queued; it creates a call, WAITING on a line that is not IDLE, and among those that an IDLE line selects from; or it finds the
queue full. -/
def RingTaken (l c : Nat) (d : CodeDef) (s t : State) : Prop :=
  let x : Line := lineAt s l
  (ringAnswer c s l = 1 →
    lineAt t l =
      { x with
        queue := x.queue.map (fun y =>
          if y.origin = .link ∧ y.code = c then { y with urgency := min 3 (y.urgency + 1) } else y) }) ∧
  (ringAnswer c s l = 0 →
    ∃ y : Call, y.origin = .link ∧ y.code = c ∧ y.urgency = d.urgency ∧ y.repeats = 0 ∧ y.due = none ∧
      y.raisedAt = s.time.now ∧ y ∈ (lineAt t l).queue ∧
      (x.st ≠ .idle → y.st = .waiting ∧ lineAt t l = { x with queue := x.queue ++ [y] }) ∧
      (x.st = .idle → x.queue = [] → x.pending = none → x.striker = none →
        y.st = .sounding false ∧ (lineAt t l).queue = [y] ∧ (lineAt t l).st = .call ∧ (lineAt t l).pattern = d.groups ∧
          (lineAt t l).group = 0 ∧ (lineAt t l).stroke = 0 ∧ (lineAt t l).on = true ∧
          (lineAt t l).striker = some (s.time.now + s.cfg.bells.onTime)) ∧
      (x.st = .idle → x.pending = none →
        Selects l s.time.now
          { x with queue := x.queue ++ [{ y with st := .waiting, dueTaken := false, raisedSeq := s.time.seq + 1 }] } s t)) ∧
  (ringAnswer c s l = 2 → lineAt t l = x)

/-- R128 to R130: every call of the code `c` is removed from line `l`. Where none of them sounds, the line goes on; where one
does, the sounding stops, and the line enters GAP, whose code gap starts at once or at the end of an on-time in progress, or
takes the strokes that are pending. -/
def AnswerTaken (l c : Nat) (s t : State) : Prop :=
  let x : Line := lineAt s l
  let kept : Line := { x with queue := x.queue.filter (fun y => !(y.code == c)) }
  (lineAt t l).queue = kept.queue ∧
  ((∀ y ∈ x.queue, y.code = c → y.st = .waiting ∨ y.st = .awaitingRepeat) → lineAt t l = kept) ∧
  ∀ y b, y ∈ x.queue → y.code = c → y.st = .sounding b →
    (x.pending = none →
      lineAt t l =
        { kept with
          st := .gap, pattern := [], group := 0, stroke := 0, on := false, left := 0
          timer := if x.striker = none then some (s.time.now + s.cfg.bells.codeGap) else none
          deferred := x.striker.isSome }) ∧
    ∀ n, x.pending = some n → TakesStrokes l s.time.now n kept s t

/-- R124 to R126, R130 to R132: what ends a wait of a line selects or takes strokes. The end of a code gap selects, and so
does a due time that makes a call eligible on an IDLE line. Pending strokes wait for the end of the group, where the call
that sounds goes back to its earlier state; of the code, where the sounding is complete; or of the strokes under way. -/
def LinesTakeTheirTurns : Prop :=
  (∀ (l : Fin 8) (due now : Nat) (x : Line) (s : State), lineAt s l = x → x.timer = some due →
    now = max s.time.now due →
    ∃ t, exec (.lineTimer l) s = .next t ∧ t.time.now = now ∧
      (x.st = .gap → x.pending = none →
        Selects l now
          { x with
            timer := none, pattern := [], group := 0, stroke := 0, on := false, left := 0, deferred := x.striker.isSome }
          s t) ∧
      ∀ n, x.pending = some n →
        (x.st = .gap ∨ x.st = .strokes ∧ x.left ≤ 1 → TakesStrokes l now n x s t) ∧
        (x.st = .strokes → 2 ≤ x.left →
          lineAt t l =
            { x with left := x.left - 1, timer := some (now + 1000), striker := some (now + s.cfg.bells.onTime) })) ∧
  (∀ (l : Fin 8) (due now : Nat) (o : Origin) (c : Nat) (x : Line) (y : Call) (s : State), lineAt s l = x →
    x.st = .idle → x.pending = none → x.queue.find? (fun z => decide (z.origin = o ∧ z.code = c)) = some y →
    y.st = .awaitingRepeat → y.due = some due → y.dueTaken = false → now = max s.time.now due →
    y.repeats ≤ ((s.cfg.codes.get c).map CodeDef.maxRepeats).getD 0 →
    ∃ t, exec (.callDueTime l o c) s = .next t ∧ t.time.now = now ∧
      Selects l now
        { x with
          queue := x.queue.map (fun z => if z.origin = o ∧ z.code = c then { z with dueTaken := true } else z) } s t) ∧
  (∀ (l : Fin 8) (due now n : Nat) (x : Line) (s : State), lineAt s l = x → x.striker = some due → x.pending = some n →
    now = max s.time.now due → x.st = .call → x.on = true → x.deferred = false →
    ∃ t, exec (.strikerOnTimeEnd l) s = .next t ∧ t.time.now = now ∧
      if x.stroke + 1 < x.pattern.getD x.group 0 then
        lineAt t l = { x with striker := none, on := false, timer := some (now + s.cfg.bells.strokeGap) }
      else
        TakesStrokes l now n
          { x with
            striker := none
            queue := x.queue.map (fun c =>
              match c.st with
              | .sounding repeated =>
                if x.group + 1 < x.pattern.length then { c with st := if repeated then .awaitingRepeat else .waiting }
                else
                  { c with
                    st := .awaitingRepeat, repeats := c.repeats + 1, dueTaken := false
                    due := some (now + 1000 * ((s.cfg.codes.get c.code).map CodeDef.interval).getD 0) }
              | .waiting | .awaitingRepeat => c) }
          s t)

/-! ### Announcements that start, go on and yield -/

/-- The phrase is READY. -/
def IsReady (s : State) (p : Nat) : Prop := ∃ len use, phraseAt s p = .ready len use

def otherChan : Chan → Chan
  | .a => .b
  | .b => .a

/-- The channels agree with the announcement table: an IDLE channel has no announcement, a channel that has one plays
the evacuation or a record of the table, no two play the same one, and a gap runs only in PASS_GAP (R153, R155, R162,
R163); and no channel has skipped a phrase at an event still to come (log entry 59). -/
def ChannelsOk (s : State) : Prop :=
  (∀ h, s.ann.chanA.handle = some h → s.ann.chanB.handle ≠ some h) ∧
  ∀ ch c, channelAt s ch = c →
    (c.st = .idle ↔ c.handle = none) ∧ (∀ h, c.handle = some h → h = 0 ∨ ∃ r ∈ s.ann.table, r.handle = h) ∧
      (c.gap.isSome = true → c.st = .passGap) ∧ ∀ n, c.skipSeq = some n → n ≤ s.time.seq

/-- R160: of the missing phrases that stand from the place `i` of the list on, those whose place the skip record does not
hold yet. -/
def newlyMissing (c : Channel) (i : Nat) (missing : List Nat) : List Nat :=
  (List.range missing.length).filter (fun k => !c.skips.contains (i + k))

/-- R160: the skip record with those places. -/
def skipsWith (c : Channel) (i : Nat) (missing : List Nat) : List Nat :=
  c.skips ++ (newlyMissing c i missing).map (fun k => i + k)

/-- R160: the records of PHRASE_SKIPPED for those places. -/
def skipRecords (c : Channel) (i : Nat) (missing : List Nat) (s : State) : List EventRec :=
  (newlyMissing c i missing).map (fun k =>
    { kind := .phraseSkipped, subject := c.handle, detail := missing.getD k 0 % 65536, time := clockTime s })

/-- R153, R158, R163: channel `ch` has stopped its announcement, the announcement table is `tb`, and the start rule has
been applied: the first QUEUED record that can start plays on `ch`, said where it is CLOSING and no other is, or GENERAL
and all others are; where every one is GENERAL and has a zone that is held, the channel rests. -/
def PlaysNext (ch : Chan) (tb : List Ann) (s t : State) : Prop :=
  let routing (z : Nat) : Option Chan := if s.ann.routing.get z = some ch then none else s.ann.routing.get z
  let blocked (g : Ann) : Prop := ∃ z < 8, g.zones.getLsbD z = true ∧ routing z ≠ none
  let waiting : List Ann := tb.filter (fun r => decide ((channelAt s (otherChan ch)).handle ≠ some r.handle))
  let queue : List Ann :=
    waiting.filter (fun r => decide (r.cls = .closing)) ++ waiting.filter (fun r => decide (r.cls = .general))
  ((∀ g ∈ queue, g.cls = .general ∧ blocked g) →
    t.ann.table = tb ∧ channelAt t ch = Channel.idle ∧ channelAt t (otherChan ch) = channelAt s (otherChan ch) ∧
      ∀ z < 8, t.ann.routing.get z = routing z) ∧
  (∀ before g after q, queue = before ++ g :: after → (∀ r ∈ before, r.cls = .general ∧ blocked r) →
    (∀ r ∈ after, r.cls = .general) → ¬ blocked g → g.phrases.head? = some q → IsReady s q →
    let c : Channel := channelAt t ch
    t.ann.table = tb ∧ c.st = .phrase ∧ c.handle = some g.handle ∧ c.phrases = g.phrases ∧ c.index = 0 ∧ c.passes = 0 ∧
      c.skips = [] ∧ c.yield = false ∧ c.granted = some q ∧ c.offset = 0 ∧
      channelAt t (otherChan ch) = channelAt s (otherChan ch) ∧
      ∀ z < 8, t.ann.routing.get z = if g.zones.getLsbD z then some ch else routing z)

/-- R163: channel `ch` has stopped its announcement: it is IDLE with its zones unrouted, its read is withdrawn or its bytes
are to be discarded, and the phrase it had begun is ended. -/
def ChannelStops (ch : Chan) (s t : State) : Prop :=
  channelAt t ch = Channel.idle ∧ channelAt t (otherChan ch) = channelAt s (otherChan ch) ∧
    (∀ z < 8, t.ann.routing.get z = if s.ann.routing.get z = some ch then none else s.ann.routing.get z) ∧
    (∀ p len use, (channelAt s ch).granted = some p → phraseAt s p = .ready len use →
      phraseAt t p = .ready len (use - 1)) ∧
    (match ch with
     | .a => t.phrases.waitA = none ∧ t.phrases.waitB = s.phrases.waitB
     | .b => t.phrases.waitB = none ∧ t.phrases.waitA = s.phrases.waitA) ∧
    ∀ q d, s.phrases.busy = some (.read ch q d) → t.phrases.busy = some (.read ch q true)

/-- R163, R165, R166: the evacuation is no longer wanted. One that plays on a channel is stopped, with ANNOUNCE_DONE
(0, CANCELLED); with records in the table, what then plays is as after any other stop. Otherwise nothing else changes. -/
def EvacuationStops (s t : State) : Prop :=
  t.ann.wanted = false ∧
  (s.ann.chanA.handle ≠ some 0 → s.ann.chanB.handle ≠ some 0 →
    t.ann = { s.ann with wanted := false } ∧ t.phrases = s.phrases) ∧
  ∀ ch, ChannelsOk s → (channelAt s ch).handle = some 0 →
    Records .announceDone (some 0) 1 s t ∧
      (s.ann.table = [] → ChannelStops ch s t ∧ t.ann.table = []) ∧
      ((∀ r ∈ s.ann.table, r.handle ≠ 0) → (channelAt s (otherChan ch)).st ≠ .idle → PlaysNext ch s.ann.table s t)

/-- R158: a GENERAL announcement with the zones cannot start now: both channels are busy, or a zone of it is held. -/
def CannotStart (s : State) (zones : Set8) : Prop :=
  s.ann.chanA.st ≠ .idle ∧ s.ann.chanB.st ≠ .idle ∨ ∃ z < 8, zones.getLsbD z = true ∧ s.ann.routing.get z ≠ none

/-- R155, R156, R158: the GENERAL announcement `r` enters the table, while every QUEUED record is GENERAL and cannot start. It
stays QUEUED where it cannot start either; otherwise it plays at once from its first phrase, here a READY one, on channel A
or, with A busy, on B. -/
def GeneralEnters (r : Ann) (s t : State) : Prop :=
  ChannelsOk s → s.ann.wanted = false →
  (∀ g ∈ s.ann.table, s.ann.chanA.handle ≠ some g.handle → s.ann.chanB.handle ≠ some g.handle →
    g.cls = .general ∧ CannotStart s g.zones) →
  t.ann.table = s.ann.table ++ [r] ∧ t.ann.nextEntry = s.ann.nextEntry + 1 ∧
  (CannotStart s r.zones →
    t.ann = { s.ann with table := s.ann.table ++ [r], lastHandle := r.handle, nextEntry := s.ann.nextEntry + 1 } ∧
      t.phrases = s.phrases) ∧
  ∀ ch p q len use, ¬ CannotStart s r.zones → ch = (if s.ann.chanA.st = .idle then Chan.a else .b) → r.phrases = p :: q →
    phraseAt s p = .ready len use → 1 ≤ len →
    let c : Channel := channelAt t ch
    c.st = .phrase ∧ c.handle = some r.handle ∧ c.phrases = r.phrases ∧ c.index = 0 ∧ c.granted = some p ∧ c.offset = 0 ∧
      c.passes = 0 ∧ c.skips = [] ∧ c.yield = false ∧ channelAt t (otherChan ch) = channelAt s (otherChan ch) ∧
      phraseAt t p = .ready len (use + 1) ∧
      ∀ z < 8, t.ann.routing.get z = if r.zones.getLsbD z then some ch else s.ann.routing.get z

/-- R158 to R163: the end of the last block of a phrase. Without a yield mark the next READY phrase of the list begins,
or the pass ends and its gap begins, or the announcement is complete; the missing phrases passed over are reported. With
a yield mark the announcement goes back to QUEUED, or is dropped, but for one that is complete. -/
def PhrasesFollowEachOther : Prop :=
  ∀ (ch : Chan) (c : Channel) (j p h len use passes : Nat) (bs missing ready : List Nat) (block : List Byte) (s : State),
    ChannelsOk s → channelAt s ch = c → c.st = .phrase → c.block = j → c.buffer j = .full j block → c.granted = some p →
    c.handle = some h → phraseAt s p = .ready len use → len ≤ (j + 1) * 256 → bs = c.phrases.drop (c.index + 1) →
    bs = missing ++ ready → (∀ q ∈ missing, ¬ IsReady s q) → (∀ q, ready.head? = some q → IsReady s q) →
    s.link.events.length + missing.length < 48 → passes = min 65535 (c.passes + 1) →
    let recorded : Option Ann := s.ann.table.find? (fun r => decide (r.handle = h))
    let others : List Ann := s.ann.table.filter (fun r => decide (r.handle ≠ h))
    let more : Bool := recorded.all (fun r => decide (passes ≤ r.repeats))
    let reported : List EventRec := s.link.events ++ skipRecords c (c.index + 1) missing s
    ∃ t, exec (.blockPlayEnd ch) s = .next t ∧ OnlyChanges announcerParts s t ∧
      let x : Channel := channelAt t ch
      let goesOn : Prop :=
        x.handle = some h ∧ x.skips = skipsWith c (c.index + 1) missing ∧ x.yield = false ∧
          channelAt t (otherChan ch) = channelAt s (otherChan ch) ∧ t.ann.table = s.ann.table ∧
          t.ann.routing = s.ann.routing ∧ t.link.events = reported
      (∀ q, c.yield = false → ready.head? = some q →
        goesOn ∧ x.st = .phrase ∧ x.index = c.index + 1 + missing.length ∧ x.granted = some q ∧ x.offset = 0 ∧
          x.block = 0 ∧ x.passes = c.passes ∧
          (q ≠ p → phraseAt t p = .ready len (use - 1) ∧
            ∀ m u, phraseAt s q = .ready m u → phraseAt t q = .ready m (u + 1))) ∧
      (c.yield = false → ready = [] → more = true →
        goesOn ∧ x.st = .passGap ∧ x.gap = some (s.time.now + 2000) ∧ x.passes = passes ∧ x.sample = 128#8 ∧
          x.granted = none ∧ phraseAt t p = .ready len (use - 1)) ∧
      (ready = [] → more = false → c.yield = false ∨ missing = [] →
        (∀ r ∈ t.ann.table, r.handle ≠ h) ∧
          (reported ++ [{ kind := .announceDone, subject := some h, detail := 0, time := clockTime s }])
            <+: t.link.events ∧
          ((channelAt s (otherChan ch)).st ≠ .idle → s.ann.wanted = false → PlaysNext ch others s t)) ∧
      (∀ r, c.yield = true → bs ≠ [] ∨ more = true → recorded = some r → (channelAt s (otherChan ch)).st ≠ .idle →
        s.ann.wanted = false →
        if r.restarts < 2 then
          PlaysNext ch (s.ann.table.map (fun g => if g.handle = h then { g with restarts := g.restarts + 1 } else g)) s t
        else PlaysNext ch others s t ∧ Queued .announceDone (some h) 2 s t)

/-! ### A fire alarm (R62, R63, R89 to R91, R104, R133, R135, R166) -/

/-- R57 to R61: the sample `v` of zone `z` confirms ALARM, from NORMAL or from a fault. -/
def ConfirmsAlarm (v : BitVec 10) (z : Nat) (s : State) : Prop :=
  let d : ZoneDef := zoneDef s z
  s.fire.channel = z ∧ z < 8 ∧ d.t1 ≤ d.t2 ∧ d.t2 ≤ v.toNat ∧ v.toNat < d.t3 ∧
    d.k ≤ (((zoneAt s z).run.filter (fun r => r.1 == .alarm)).map Prod.snd).getD 0 + 1 ∧
    ((zoneAt s z).st = .normal ∧ d.t2 + d.h ≤ v.toNat ∨ (zoneAt s z).st = .openFault ∧ v.toNat + d.h < d.t3 ∨
      (zoneAt s z).st = .shortFault ∧ d.t1 + d.h ≤ v.toNat)

/-- R89, R90: the fire zone set of a shutter meets the alarmed set with zone `z` in it. -/
def Meets (z : Nat) (s : State) (d : ShutterDef) : Prop :=
  ∃ y < 8, d.zones.getLsbD y = true ∧ (y = z ∨ s.fire.alarmed.getLsbD y = true)

/-- R89 to R91: a FIRE close demand is offered to every matching shutter without one. A CLOSED shutter is satisfied; one
with an electrical fault is FIRE_CLOSE_IMPOSSIBLE; every other has the demand, which is single-attempt with another fault.
That only a FIRE demand is PAUSED is a premise (R87). -/
def FireDemandsAreOffered (z now : Nat) (s t : State) : Prop :=
  ∀ i d, i < 24 → s.cfg.shutters.get i = some d → Meets z s d →
    (∀ e, demandOf s i = some e → e.cls ≠ .fire ∧ e.status ≠ .paused) →
    let x : Shutter := shutterAt s i
    (x.motion = .closed → x.demand = none → demandOf t i = none ∧ (shutterAt t i).fault = x.fault) ∧
    (x.motion ≠ .closed →
      (∀ f, x.fault = some f → f ∈ [.travelTimeout, .obstructionRetries, .limitLost, .limitsBoth]) →
      ∃ e, demandOf t i = some e ∧ e.dir = .close ∧ e.cls = .fire ∧ e.single = x.fault.isSome ∧ e.placedAt = now) ∧
    (∀ f, x.motion ≠ .closed → x.demand = none → x.fault = some f →
      f ∈ [.shortSupply, .shortGround, .openWinding, .openCircuit, .unclassified] →
      demandOf t i = none ∧ Records .fireCloseImpossible (some i) f.code s t)

/-- R75, R101, R104: the latch is set while no bridge is FREE and bridge `f` makes a sweep check. The sweep is abandoned for
the FIRE demand that stands first in the grant queue; a FIRE demand on the swept shutter itself takes the check over. That
no FIRE demand stands while the latch is clear, and that none is PAUSED, are premises (R87, R89, R93). -/
def FireTakesTheSweepBridge (z now : Nat) (s t : State) : Prop :=
  ∀ f j lv due, f < 4 → (bridgeAt s f).st = .checking .sweep lv due → (bridgeAt s f).shutter = some j → j < 24 →
    s.field.lost = false → (shutterAt s j).demand = none →
    (∀ g < 4, g ≠ f → (bridgeAt s g).shutter ≠ some j ∧ (bridgeAt s g).st ≠ .free ∧
      ∀ x y, (bridgeAt s g).st ≠ .checking .sweep x y) →
    (∀ k < 24, ∀ d, demandOf s k = some d → d.cls ≠ .fire ∧ d.status ≠ .paused) →
    let joins (i : Nat) (d : ShutterDef) : Prop :=
      s.cfg.shutters.get i = some d ∧ Meets z s d ∧ d.kind ≠ .opening ∧ (shutterAt s i).demand = none ∧
        (shutterAt s i).fault = none ∧ (shutterAt s i).motion ≠ .closed
    let checked (i : Nat) : Prop := ∃ x, demandOf t i = some x ∧ x.cls = .fire ∧ x.status = .checking
    (∀ i d, i < 24 → joins i d → (∀ g < 4, (bridgeAt s g).shutter ≠ some i) →
      (∀ e, s.cfg.shutters.get j = some e → ¬ Meets z s e) →
      (∀ k e, k < 24 → k ≠ i → s.cfg.shutters.get k = some e → Meets z s e →
        d.priority < e.priority ∨ d.priority = e.priority ∧ i < k) →
      checked i ∧ bridgeAt t f = { bridgeAt s f with st := .checking .preTravel [] (now + 30), shutter := some i } ∧
        (shutterAt t j).lastCheck = (shutterAt s j).lastCheck ∧ ∀ g < 4, (bridgeAt t g).shutter ≠ some j) ∧
    (∀ d, joins j d →
      checked j ∧ bridgeAt t f = { bridgeAt s f with st := .checking .preTravel lv due })

/-- R39, R41, R45, R52: the loop takes the setting of the latch in each of its states, at the time `now`. A drain that is
complete goes over into a stop, which ends at once where it brakes with standstill confirmed; how a stop is planned, the
statement of LOOP STOP says. -/
def LoopTakesTheLatch (now : Nat) (s t : State) : Prop :=
  let fire : Nat := now + 1000 * s.cfg.timing.drainFire
  let stops : Prop :=
    t.loop.st ∈ (if s.loop.standstill then [.stopping, .parked, .stoppedFoul] else [.stopping, .braking]) ∧
      t.loop.drain = none ∧ t.loop.drainTimer = none
  (s.loop.st = .running ∨ s.loop.st = .starting →
    if s.loop.cars.all (· == .count 0) then stops ∧ Records .drainDone none 0 s t
    else
      t.loop =
        { s.loop with
          st := .draining, drain := some { fire := true, stopPending := true, drained := false, travel := 0, revs := 0 }
          drainTimer := if s.loop.fireDrainPending then s.loop.drainTimer else some fire
          refStop := .none, fireDrainPending := false, exhausted := false, creepDelay := none }) ∧
  (∀ d, s.loop.st = .draining → s.loop.drain = some d →
    if d.drained then stops
    else
      t.loop = { s.loop with drain := some { d with fire := true, stopPending := true }, drainTimer := some fire }) ∧
  (s.loop.st = .referencing →
    t.loop =
      { s.loop with
        refStop := if s.loop.refStop = .stop then .stop else .drain, fireDrainPending := true, drainTimer := some fire }) ∧
  (s.loop.st ∈ [.stopping, .braking, .creeping, .parked, .stoppedFoul, .unreferenced, .unconfigured, .faultStop] →
    t.loop = s.loop)

/-- R123, R133, R135: line `l` rings for fire from the time `now` on; its first stroke waits for the end of an on-time in
progress. -/
def RingsForFire (l now : Nat) (s t : State) : Prop :=
  let y : Line := lineAt t l
  y.st = .fireRinging ∧ y.striker.isSome = true ∧
    if (lineAt s l).striker = none then
      y.striker = some (now + s.cfg.bells.onTime) ∧ y.timer = some (now + s.cfg.bells.firePeriod) ∧ y.deferred = false
    else y.striker = (lineAt s l).striker ∧ y.timer = none ∧ y.deferred = true

/-- R158, R160, R165, R166: both channels have come to rest, and the evacuation is wanted: where it is defined it plays on
channel A from its first READY phrase, with every zone; where it is not, the channels rest. -/
def EvacuationStarts (s t : State) : Prop :=
  t.ann.chanB = Channel.idle ∧
  (s.cfg.evac = none → t.ann.chanA = Channel.idle ∧ t.ann.routing = Tab.fill 8 none) ∧
  ∀ missing p rest, s.cfg.evac = some (missing ++ p :: rest) → (∀ q ∈ missing, ¬ IsReady s q) → IsReady s p →
    let c : Channel := t.ann.chanA
    c.st = .phrase ∧ c.handle = some 0 ∧ c.phrases = missing ++ p :: rest ∧ c.index = missing.length ∧
      c.granted = some p ∧ c.offset = 0 ∧ c.passes = 0 ∧ c.yield = false ∧ t.ann.routing = Tab.fill 8 (some .a)

/-- R62, R63, R90, R135, R166: a further zone alarm, while the latch is set: the zone joins the alarmed set, FIRE demands
are offered, a silenced line rings again and a ringing one rings on, and the evacuation is wanted: one that plays plays on,
and one that does not starts. The loop and the clock's programme take nothing. -/
def FurtherAlarmsReachTheReaders : Prop :=
  ∀ (v : BitVec 10) (z now : Nat) (s : State), ConfirmsAlarm v z s → s.fire.latch = true → s.prog.st ≠ .held →
    now = max s.time.now s.time.convDue →
    ∃ t, exec (.conversionComplete v) s = .next t ∧ t.fire.latch = true ∧ (zoneAt t z).st = .alarm ∧
      (∀ y < 8, t.fire.alarmed.getLsbD y = (decide (y = z) || s.fire.alarmed.getLsbD y)) ∧
      Queued .zoneAlarm (some z) (zoneDef s z).floor s t ∧
      (∀ e ∈ t.link.events.drop s.link.events.length, e.kind ≠ .fireLatched) ∧
      t.loop = s.loop ∧ t.prog = s.prog ∧ FireDemandsAreOffered z now s t ∧
      (∀ i < 24, ∀ d, demandOf s i = some d → d.cls = .fire →
        ∃ e, demandOf t i = some e ∧ e.cls = .fire ∧ e.dir = d.dir ∧ e.placedAt = d.placedAt) ∧
      t.bells.lamps = s.bells.lamps ∧
      (∀ l < 8,
        if (lineAt s l).st = .silenced then RingsForFire l now s t else lineAt t l = lineAt s l) ∧
      t.ann.wanted = true ∧
      (s.ann.table = [] → s.ann.chanA.handle = some 0 ∨ s.ann.chanB.handle = some 0 →
        t.ann = { s.ann with wanted := true } ∧ t.phrases = s.phrases) ∧
      (s.ann.table = [] → s.ann.chanA = Channel.idle → s.ann.chanB = Channel.idle → s.ann.routing = Tab.fill 8 none →
        EvacuationStarts s t)

/-! ### Outputs (R21, R101, R119, R197, section 11.3) -/

/-- R21, R101, R119, section 11.3: the commanded value of every field output: a landing lamp is on for GO; a shutter's
selector enable is on while it is connected, with the bridge number in its two bits; a station's lamp is lit as it stands,
slow or fast by the running time (which half comes first: log entry 28); and the outputs with no allocation are off. -/
def OutputsShowTheState : Prop :=
  ∀ s : State,
    (∀ o < 16, (outputs s).getLsbD o =
      decide (s.loop.st = .running ∧ (s.cfg.geom.openings.get o).isSome = true ∧ o / 2 < s.cfg.geom.landings ∧
        s.loop.lockout.get (o / 2) = false)) ∧
    (∀ i < 24, ∀ enable low high,
      (enable, low, high) = (if i < 16 then (16 + i, 32 + i, 48 + i) else (48 + i, 56 + i, 64 + i)) →
      (∀ b < 4, (bridgeAt s b).shutter = some i → (∀ c < b, (bridgeAt s c).shutter ≠ some i) →
        (outputs s).getLsbD enable = true ∧ (outputs s).getLsbD low = decide (b % 2 = 1) ∧
          (outputs s).getLsbD high = decide (2 ≤ b)) ∧
      ((∀ b < 4, (bridgeAt s b).shutter ≠ some i) →
        (outputs s).getLsbD enable = false ∧ (outputs s).getLsbD low = false ∧ (outputs s).getLsbD high = false)) ∧
    (∀ n < 48, (outputs s).getLsbD (144 + n) =
      match (s.bells.lamps.get n).flash, (s.bells.lamps.get n).steady with
      | some _, _ => decide (s.time.now / 125 % 2 = 0)
      | none, .off => false
      | none, .pending => true
      | none, .unanswered => decide (s.time.now / 500 % 2 = 0)) ∧
    ∀ p < 256, 88 ≤ p ∧ p < 144 ∨ 192 ≤ p → (outputs s).getLsbD p = false

/-- R197: the attention line is asserted exactly when the event queue is not empty or a standing condition exists. -/
def AttentionShowsTheConditions : Prop :=
  ∀ s : State, attention s = true ↔
    s.link.events ≠ [] ∨ s.fire.latch = true ∨ s.loop.st = .faultStop ∨
      (∃ i < 24, (shutterAt s i).fault.isSome = true) ∨ (∃ b < 4, (bridgeAt s b).st = .outOfService) ∨
      (∃ z < 8, (zoneAt s z).st = .openFault ∨ (zoneAt s z).st = .shortFault) ∨ s.field.lost = true

/-! ### A reset -/

/-- R25, R28, R53, R68, R99, R123, R138, R146, R152, R168, R187, R201, R204: a reset with the cause code `cause` has brought
the part from `s` to `t`: the running time is 0, with the first scan and the first conversion ahead (log entry 13), every part
of the live state has its reset value, the bridge and field outputs are off, the settings and the directory are those that
the store memory's sections give, START_UP stands first in the event queue with what was found, and DIRECTORY_LOST after it
where the directory is lost. A directory that was not good is written anew. The commands that wait are kept. -/
def ResetLeaves (cause : Nat) (s t : State) : Prop :=
  ∃ e rest,
    t.time = { now := 0, seq := 0, scanDue := 4, convDue := 2, samples := 0 } ∧
    t.loop =
      { st := if t.cfg.geom.valid then .unreferenced else .unconfigured
        c := 0, refValid := false, refPitch := 0, cars := List.replicate t.cfg.geom.cars .unknown
        watches := Tab.fill 16 .idle, recognisers := Tab.fill 16 .waitClear, lockout := Tab.fill 8 false
        standstill := false, standTimer := some t.cfg.timing.standstill, lastPitch := none, interval := none
        closing := 0, window := none, refStop := .none, fireDrainPending := false, drain := none, drainTimer := none
        plan := none, lastError := none, attempts := 0, exhausted := false, creepDelay := none, creepPlan := none
        fault := none } ∧
    contactorClosed t = false ∧ t.fire.latch = false ∧ t.fire.alarmed = 0#8 ∧ t.fire.channel = 0 ∧
    (∀ z < 8,
      zoneAt t z = { st := if (zoneDef t z).enable then .normal else .disabled, run := none, latest := none }) ∧
    t.shutters =
      Tab.fill 24
        { motion := .stoppedMid, demand := none, obstructions := 0, fault := none, lastCheck := none, travel := none
          retry := none, pause := none } ∧
    t.bridges =
      { units := Tab.fill 4 { st := .free, shutter := none, latest := none, suspect := none, withdrawn := none }
        cursor := 0, sweepDue := false
        sweepTimer := if t.cfg.bridges.sweep = 0 then none else some (60000 * t.cfg.bridges.sweep) } ∧
    (∀ b < 4, bridgeOutput t b = .floating) ∧
    t.bells = { lines := Tab.fill 8 Line.rest, lamps := Tab.fill 48 { steady := .off, flash := none } } ∧
    (Line.rest.st = .idle ∧ Line.rest.queue = [] ∧ Line.rest.pending = none ∧ Line.rest.striker = none ∧
      Line.rest.timer = none) ∧
    t.ann =
      { table := [], lastHandle := 0, nextEntry := 0, routing := Tab.fill 8 none, chanA := Channel.idle
        chanB := Channel.idle, wanted := false } ∧
    (Channel.idle.st = .idle ∧ Channel.idle.handle = none ∧ Channel.idle.gap = none ∧ Channel.idle.sample = 128#8 ∧
      Channel.idle.buf0 = .empty ∧ Channel.idle.buf1 = .empty) ∧
    t.clock = { isSet := false, seconds := 0, weekday := 0, tickDue := 0 } ∧
    t.prog =
      { st := .idle, day := none, reference := 0, delay := 0, next := none, hold := none, watch := none
        results := Tab.fill 16 .notReached, pastMidnight := false } ∧
    t.phrases.busy = none ∧ t.phrases.waitA = none ∧ t.phrases.waitB = none ∧ t.phrases.stream = none ∧
    t.link.rate = 19200 ∧ t.link.newRate = none ∧ t.link.closed = false ∧ t.link.kept = [] ∧ t.link.gap = none ∧
    t.link.waiting = none ∧ t.link.reply = none ∧ t.link.restarting = false ∧ t.link.restarted = true ∧
    t.link.dropped = false ∧ t.link.dropAgain = false ∧ t.link.settingsChanged = false ∧
    t.link.eventsLost = false ∧ t.link.lost = 0 ∧
    t.field =
      { inputs := Tab.fill 256 { accepted := none, raw := none, awaiting := false }, sending := 0#256
        latched := 0#256, mismatches := 0, losses := 0, lost := false } ∧
    (∀ p < 256, outputAt t p = false) ∧ t.pending = s.pending ∧
    t.link.events = e :: rest ∧ e.kind = .startUp ∧ e.subject = some cause ∧ e.time = none ∧
    (s.phrases.stream = none → cutStore s = s.store) ∧
    ∀ (x : Settings) (src : SettingsSource) (f : Found), (x, src) = loadSettings (readBytes (cutStore s) 0 1280) →
      f = findDirectory (readBytes (cutStore s) 2048 514) →
      t.cfg = x ∧ t.link.settingsDefault = decide (src ≠ .loaded) ∧ (src ≠ .loaded → x = defaultSettings) ∧
        t.phrases.phrases = f.phrases ∧ t.phrases.owners = f.owners ∧ t.phrases.dir = f.dir ∧
        e.detail = src.code + 256 * f.dir.code ∧ (f.dir ≠ .lost → rest = []) ∧
        (f.dir = .lost →
          rest = [{ kind := .directoryLost, subject := none, detail := f.detail, time := none }] ∧
            (∀ p < 64, phraseAt t p = .empty) ∧ ∀ g < 256, t.phrases.owners.get g = none) ∧
        (f.dir = .good → t.store = cutStore s) ∧
        (memoryWf s.store = true → f.dir ≠ .good →
          readBytes t.store 2048 514 = (directoryChunks t).flatMap Chunk.bytes ∧
            ∀ a, a < 2048 ∨ 2562 ≤ a → readByte t.store a = readByte (cutStore s) a)

/-! ### Frames found among bytes -/

/-- R189: the body of a good frame: 3 to 240 bytes, neither wholly 0x00 nor wholly 0xFF. -/
def GoodBody (body : List Byte) : Prop :=
  3 ≤ body.length ∧ body.length ≤ 240 ∧ (∃ b ∈ body, b ≠ 0x00#8) ∧ ∃ b ∈ body, b ≠ 0xFF#8

/-- R189: the bytes after a start byte are not yet a whole frame, and none of them drops the candidate. -/
def Partial (bs : List Byte) : Prop :=
  bs = [] ∨ ∃ n rest, bs = n :: rest ∧ 3 ≤ n.toNat ∧ n.toNat ≤ 240 ∧ rest.length ≤ n.toNat

/-- R190: the bytes after a start byte drop the candidate: its length byte is outside 3 to 240; or it is whole and its sum
fails or its body is wholly 0x00 or wholly 0xFF. -/
def Dropped (bs : List Byte) : Prop :=
  (∃ n rest, bs = n :: rest ∧ (n.toNat < 3 ∨ 240 < n.toNat)) ∨
    ∃ n body check rest, bs = n :: (body ++ check :: rest) ∧ 3 ≤ n.toNat ∧ n.toNat ≤ 240 ∧ body.length = n.toNat ∧
      ((n.toNat + body.foldl (fun k b => k + b.toNat) 0 + check.toNat) % 256 ≠ 0 ∨ (∀ b ∈ body, b = 0x00#8) ∨
        ∀ b ∈ body, b = 0xFF#8)

/-- R190: the framer hunts through bytes: what it keeps as the candidate under way, and the body of the good frame that it
finds, with the bytes after it. -/
inductive Hunts : List Byte → List Byte → Option (List Byte × List Byte) → Prop where
  | over : Hunts [] [] none
  | skip {b bs kept found} : b ≠ 0x7E#8 → Hunts bs kept found → Hunts (b :: bs) kept found
  | under {bs} : Partial bs → Hunts (0x7E#8 :: bs) (0x7E#8 :: bs) none
  | good {body rest} : GoodBody body → Hunts (frameOf body ++ rest) [] (some (body, rest))
  | again {bs kept found} : Dropped bs → Hunts bs kept found → Hunts (0x7E#8 :: bs) kept found

/-- R190, R191: `t` is `s`, in which a candidate has been dropped, after the framer has hunted through the bytes that it
had kept: the candidate it then keeps with its gap timer, or the request of the frame it finds; a start byte after that
frame comes while the framer is CLOSED. -/
def TakesHunted (kept : List Byte) (found : Option (List Byte × List Byte)) (s t : State) : Prop :=
  match found with
  | none =>
    t = { s with link := { s.link with
      kept, gap := if kept = [] then none else some (s.time.now + 25), dropped := true, dropAgain := true } }
  | some (body, rest) =>
    let u := dispatch body { s with link := { s.link with kept := [], gap := none, dropped := true, dropAgain := true } }
    t = if 0x7E#8 ∈ rest then { u with link := { u.link with dropped := true, dropAgain := true } } else u

/-! ### Frames that are refused before an owner sees them (R192) -/

/-- Section 11.4: the request kinds whose parameters have one length, with that length in bytes. -/
def fixedLengths : List (Nat × Nat) :=
  [(0x01, 0), (0x02, 0), (0x03, 1), (0x04, 2), (0x05, 4), (0x06, 3), (0x07, 0), (0x08, 0), (0x10, 3), (0x11, 5), (0x12, 25),
   (0x13, 0), (0x14, 0), (0x15, 1), (0x16, 0), (0x17, 2), (0x18, 0), (0x19, 0), (0x1A, 1), (0x20, 11), (0x21, 0), (0x22, 0),
   (0x28, 12), (0x29, 2), (0x2A, 2), (0x2B, 1), (0x2C, 1), (0x2D, 8), (0x2E, 0), (0x32, 9), (0x33, 2), (0x34, 2), (0x35, 1),
   (0x36, 2), (0x40, 4), (0x42, 1), (0x43, 1), (0x44, 1), (0x4A, 1), (0x4B, 0), (0x50, 14), (0x52, 0), (0x53, 1), (0x54, 0),
   (0x55, 1)]

/-- Section 11.4: the request kinds. Those of the second list have a length that a count or another parameter gives. -/
def RequestKind (kind : Nat) : Prop := kind ∈ fixedLengths.map Prod.fst ∨ kind ∈ [0x30, 0x31, 0x41, 0x48, 0x49, 0x51]

/-- R117, R118, R143, R156, R165, R171, R192: the parameters have the length that the kind requires, or that its count
gives: DEFINE CODE with and without its two last values, DEFINE STATION with and without a line and a code, DEFINE STEP with
a slot alone or with a step (log entries 17 and 85), in which the hold limit may be absent. -/
def LengthSuits (kind : Nat) (ps : List Byte) : Prop :=
  (kind, ps.length) ∈ fixedLengths ∨
  (kind = 0x30 ∧ ∃ code n rest, ps = code :: n :: rest ∧ (rest.length = n.toNat + 1 ∨ rest.length = n.toNat + 4)) ∨
  (kind = 0x31 ∧ ∃ n e rest, ps = n :: e :: rest ∧ (rest.length = 0 ∧ e ≠ 1#8 ∨ rest.length = 2 ∧ e ≠ 0#8)) ∨
  (kind = 0x41 ∧ ∃ p a b c n rest, ps = p :: a :: b :: c :: n :: rest ∧ rest.length = n.toNat) ∨
  (kind = 0x48 ∧ ∃ n rest, ps = n :: rest ∧ rest.length = n.toNat) ∨
  (kind = 0x49 ∧ ∃ zs n rest, ps = zs :: n :: rest ∧ rest.length = n.toNat + 1) ∨
  (kind = 0x51 ∧ (ps.length = 1 ∨ ∃ k o a rest, ps = k :: o :: a :: rest ∧
    match a.toNat with
    | 0 => ∃ n q, rest = n :: q ∧ q.length = n.toNat + 1
    | 1 => rest.length = 2
    | 2 => rest.length = 0
    | 3 => rest.length ≤ 1
    | 4 => rest.length = 1 ∨ rest.length = 2
    | 5 => rest.length = 1
    | _ => rest.length = 0))

/-! ### The closing programme -/

/-- R171: a step that DEFINE STEP refuses: an offset, an action or a structural value out of range, an empty set, or a
parameter that does not belong to the action. -/
def BadStep (v : StepReq) : Prop :=
  v.offset < -90 ∨ 30 < v.offset ∨ 5 < v.action ∨
    (∃ ps, v.phrases = some ps ∧ (ps = [] ∨ 8 < ps.length ∨ ∃ p ∈ ps, 63 < p)) ∨
    v.zones = some 0#8 ∨ v.lines = some 0#8 ∨ v.floors = some 0#8 ∨ (∃ g, v.group = some g ∧ 7 < g) ∨
    (v.action ≠ 0 ∧ (v.phrases.isSome = true ∨ v.zones.isSome = true)) ∨
    (v.action ≠ 1 ∧ (v.strokes.isSome = true ∨ v.lines.isSome = true)) ∨
    (v.action ≠ 4 ∧ v.group.isSome = true) ∨ (v.action ≠ 5 ∧ v.floors.isSome = true) ∨
    (v.action ≠ 3 ∧ v.action ≠ 4 ∧ v.hold.isSome = true)

/-- R172: the due time of a step. -/
def dueAt (s : State) (x : ClosingStep) : Int := s.prog.reference + 60 * x.offset + 60 * s.prog.delay

/-- R173: the programme time is `P` when the clock reads `sec` on weekday `day`. -/
def IsTime (s : State) (sec day P : Nat) : Prop :=
  ∃ d < 7, s.prog.day = some d ∧ (day = d ∧ P = sec ∨ day = (d + 1) % 7 ∧ P = 86400 + sec)

/-- R168: the seconds and the weekday after a second tick. -/
def secondsNext (s : State) : Nat := if s.clock.seconds = 86399 then 0 else s.clock.seconds + 1

def weekdayNext (s : State) : Nat :=
  if s.clock.seconds = 86399 then (s.clock.weekday + 1) % 7 else s.clock.weekday

/-- Slot `j` is the next defined slot above `k`. -/
def NextSlot (s : State) (k j : Nat) : Prop :=
  k < j ∧ j < 16 ∧ (s.cfg.steps.get j).isSome = true ∧ ∀ i, k < i → i < j → s.cfg.steps.get i = none

/-- No slot above `k` is due at the programme time `P`. -/
def NoneDueAbove (s : State) (k P : Nat) : Prop :=
  ∀ j y, k < j → j < 16 → s.cfg.steps.get j = some y → (P : Int) < dueAt s y

/-- Slot `k` is the lowest-numbered defined slot. -/
def LowestSlot (s : State) (k : Nat) : Prop :=
  k < 16 ∧ (s.cfg.steps.get k).isSome = true ∧ ∀ j, j < k → s.cfg.steps.get j = none

/-- Slot `k` is the highest-numbered defined slot. -/
def HighestSlot (s : State) (k : Nat) : Prop :=
  k < 16 ∧ (s.cfg.steps.get k).isSome = true ∧ ∀ j, k < j → j < 16 → s.cfg.steps.get j = none

/-- R172 to R174: what an arming leaves with the clock at `sec` on weekday `day` and the closing times and the steps of
`t`: IDLE, ARMED, or a start: ABORTED under the latch, COMPLETE when wholly missed, and otherwise under way. -/
def Arms (isSet : Bool) (sec day : Nat) (s t : State) : Prop :=
  let delay : Nat := if s.prog.day = some day then s.prog.delay else 0
  let fresh (st : ProgState) (reference : Int) (next : Option Nat) : Programme :=
    { st, day := some day, reference, delay, next, hold := none, watch := none, results := Tab.fill 16 .notReached
      pastMidnight := false }
  (isSet = false ∨ t.cfg.times.get day = none ∨ (∀ k < 16, t.cfg.steps.get k = none) →
    t.prog = fresh .idle s.prog.reference none) ∧
  ∀ (m k l : Nat) (x z : ClosingStep), isSet = true → t.cfg.times.get day = some m → LowestSlot t k →
    t.cfg.steps.get k = some x → HighestSlot t l → t.cfg.steps.get l = some z →
    let due (y : ClosingStep) : Int := 60 * (m : Int) + 60 * y.offset + 60 * (delay : Int)
    ((sec : Int) < due x → t.prog = fresh .armed (60 * m) (some k)) ∧
    (due x ≤ sec → s.fire.latch = true →
      t.prog = fresh .aborted (60 * m) (some k) ∧ Records .closingMissed none 2 s t) ∧
    (due x ≤ sec → s.fire.latch = false → due z < sec →
      t.prog = fresh .complete (60 * m) none ∧ Records .closingMissed none 1 s t) ∧
    (due x ≤ sec → s.fire.latch = false → (sec : Int) ≤ due z →
      Records .closingStarted (some 0) m s t ∧ t.prog.day = some day ∧ t.prog.reference = 60 * m ∧
        t.prog.delay = delay ∧ t.prog.pastMidnight = false ∧ t.prog.st ∈ [.running, .held, .complete] ∧
        (t.prog.st = .held → ∃ h, t.prog.next = some h ∧ t.prog.results.get h = .notReached) ∧
        ((t.prog.st = .held → t.prog.next ≠ some k) → t.prog.results.get k ≠ .notReached) ∧
        ∀ j y, t.cfg.steps.get j = some y → (sec : Int) < due y → k < j →
          (∀ i, k ≤ i → i < j → ∀ w, t.cfg.steps.get i = some w → w.offset ≤ y.offset) →
          t.prog.results.get j = .notReached)

/-- R168, R169, R173, R174, R175, R180: the command brings the programme to the time `P`, at which the step `x` of slot
`k` is begun and no step above it is due: a second tick while RUNNING, the second tick that starts an ARMED programme,
or a SET CLOCK that puts the clock of a RUNNING one forward and does not leave it wholly missed. Where it is the last
step, the programme has not run past midnight (R181). -/
def FallsDue (c : Instr) (k : Nat) (x : ClosingStep) (P : Nat) (s : State) : Prop :=
  k < 16 ∧ s.cfg.steps.get k = some x ∧ dueAt s x ≤ P ∧ NoneDueAbove s k P ∧
    (c = .secondTick ∧ s.clock.isSet = true ∧ IsTime s (secondsNext s) (weekdayNext s) P ∧ s.prog.st = .running ∧
        s.prog.next = some k ∧ (HighestSlot s k → s.prog.pastMidnight = false ∧ s.clock.seconds ≠ 86399) ∨
      c = .secondTick ∧ s.clock.isSet = true ∧ IsTime s (secondsNext s) (weekdayNext s) P ∧ s.clock.seconds ≠ 86399 ∧
        s.prog.st = .armed ∧ s.fire.latch = false ∧ LowestSlot s k ∧
        (HighestSlot s k → dueAt s x = P ∧ s.prog.pastMidnight = false) ∨
      ∃ tag sec day Q, c = .setClock tag sec day ∧ s.link.closed = false ∧ sec < 86400 ∧ day < 7 ∧
        s.prog.st = .running ∧ s.prog.next = some k ∧ IsTime s s.clock.seconds s.clock.weekday Q ∧ IsTime s sec day P ∧
        Q < P ∧ (HighestSlot s k → dueAt s x = P ∧ s.prog.pastMidnight = false))

/-- R175 to R179: the step of slot `k` is over with the result `r` and an event of kind `e`, and the programme goes on to
the next defined slot, or is COMPLETE. -/
def StepOver (k : Nat) (r : StepResult) (e : EventKind) (detail : Nat) (s t : State) : Prop :=
  (∀ j < 16, t.prog.results.get j = if j = k then r else s.prog.results.get j) ∧ Records e (some k) detail s t ∧
    t.prog.day = s.prog.day ∧ t.prog.reference = s.prog.reference ∧ t.prog.delay = s.prog.delay ∧
    (∀ j, NextSlot s k j → t.prog.st = .running ∧ t.prog.next = some j) ∧
    (HighestSlot s k →
      t.prog.st = .complete ∧ t.prog.next = none ∧ t.prog.hold = none ∧ t.prog.watch = none ∧
        Records .closingComplete
          (some ((List.range 16).filter (fun j => match t.prog.results.get j with
            | .skipped _ | .timedOut _ => true
            | .notReached | .done _ | .aborted => false)).length)
          ((List.range 16).filter (fun j => match t.prog.results.get j with
            | .done _ => true
            | .notReached | .skipped _ | .timedOut _ | .aborted => false)).length s t)

/-- R177, R178: the programme is HELD on slot `k` with a hold timer of some minutes and a watch. -/
def StepHolds (k minutes : Nat) (watch : Option CloseWatch) (s t : State) : Prop :=
  t.prog = { s.prog with
    st := .held, next := some k, hold := some (t.time.now + 60000 * minutes), watch
    pastMidnight := t.prog.pastMidnight }

/-- R175: one pass at the programme time `P` over the slots from `n` on: every defined slot that is due is begun, in slot
order, and is over when the pass leaves it; the pass ends at the first slot that is not due, at a step that holds, or past
slot 15, and changes no other result. -/
def PassRuns (n : Nat) (P : Int) (s t : State) : Prop :=
  let stop : Nat := if t.prog.st = .complete then 16 else t.prog.next.getD 16
  (∀ i x, n ≤ i → i < stop → s.cfg.steps.get i = some x →
    dueAt s x ≤ P ∧ ∃ r, t.prog.results.get i = r ∧ r ≠ .notReached ∧ r ≠ .aborted) ∧
  (∀ i, i < n ∨ stop ≤ i ∨ s.cfg.steps.get i = none → t.prog.results.get i = s.prog.results.get i) ∧
  (t.prog.st = .running ∧ stop < 16 ∧ (∃ y, s.cfg.steps.get stop = some y ∧ P < dueAt s y) ∨
    t.prog.st = .held ∧ n ≤ stop ∧ (∃ y, s.cfg.steps.get stop = some y ∧ dueAt s y ≤ P ∧
      ((∃ h, y.action = .loopStop h) ∨ ∃ g h, y.action = .shuttersClose g h)) ∨
    t.prog.st = .complete ∧ t.prog.next = none)

/-- R175: the pass at a second tick while RUNNING, from the next step index on. -/
def PassesTakeEveryDueStep : Prop :=
  ∀ (n P : Nat) (s : State), s.clock.isSet = true → s.prog.st = .running → s.prog.next = some n →
    s.prog.pastMidnight = false → s.clock.seconds ≠ 86399 → IsTime s (secondsNext s) (weekdayNext s) P →
    ∃ t, exec .secondTick s = .next t ∧ PassRuns n P s t

/-- R174: the programme of `s` is started at the programme time `P`: ABORTED under the latch, COMPLETE when wholly missed,
and otherwise under way, with CLOSING_STARTED (the subject tells an armed start, 0, from CLOSING START, 1) and the steps due
taken at once. -/
def Starts (subject : Nat) (P : Int) (s t : State) : Prop :=
  (s.fire.latch = true → t.prog = { s.prog with st := .aborted } ∧ Records .closingMissed none 2 s t) ∧
  ∀ k l z, s.fire.latch = false → LowestSlot s k → HighestSlot s l → s.cfg.steps.get l = some z →
    if dueAt s z < P then
      t.prog = { s.prog with st := .complete, next := none, hold := none, watch := none } ∧
        Records .closingMissed none 1 s t
    else
      Records .closingStarted (some subject) (s.prog.reference.fdiv 60 % 65536).toNat s t ∧ t.prog.day = s.prog.day ∧
        t.prog.reference = s.prog.reference ∧ t.prog.delay = s.prog.delay ∧
        t.prog.pastMidnight = s.prog.pastMidnight ∧ PassRuns k P s t

/-- The programme that CLOSING START starts with the first step `x` (R183): for the clock's day, with P as the start due
time. -/
def startedProgramme (x : ClosingStep) (s : State) : Programme :=
  { s.prog with
    day := some s.clock.weekday, reference := s.clock.seconds - 60 * x.offset, delay := 0
    results := Tab.fill 16 .notReached, pastMidnight := false }

/-- R174, R175, R183: CLOSING START with any table of steps. It starts the programme at once, and what its first steps do is
what they do at the second tick at which an ARMED programme of the same reference starts; CLOSING_STARTED tells the two
apart. -/
def ClosingStartTakesItsSteps : Prop :=
  ∀ (tag : Byte) (k l : Nat) (x z : ClosingStep) (s : State), s.link.closed = false → s.fire.latch = false →
    s.clock.isSet = true → s.clock.weekday < 7 → programmeRuns s = false → LowestSlot s k → s.cfg.steps.get k = some x →
    HighestSlot s l → s.cfg.steps.get l = some z → (∀ j < 16, ∀ y, s.cfg.steps.get j = some y → x.offset ≤ y.offset) →
    ∃ t, exec (.closingStart tag) s = .next t ∧
      Replied 0x52#8 tag .done
        (signedLE 3 (s.clock.seconds - 60 * x.offset) ++
          signedLE 3 (s.clock.seconds - 60 * x.offset + 60 * z.offset)) t ∧
      Queued .closingStarted (some 1) (((s.clock.seconds : Int) - 60 * x.offset).fdiv 60 % 65536).toNat s t ∧
      Starts 1 s.clock.seconds { s with prog := startedProgramme x s } t ∧
      ∀ u, 1 ≤ s.clock.seconds → s.clock.seconds < 86400 →
        exec .secondTick
          { s with
            clock := { s.clock with seconds := s.clock.seconds - 1, tickDue := s.time.now }
            prog := { startedProgramme x s with st := .armed, next := some k } } = .next u →
        t.prog = u.prog ∧ t.loop = u.loop ∧ t.shutters = u.shutters ∧ t.bridges = u.bridges ∧ t.bells = u.bells ∧
          t.ann = u.ann ∧ t.phrases = u.phrases ∧
          ∀ e rest, s.link.events.length < 48 → u.link.events = s.link.events ++ e :: rest →
            t.link.events = s.link.events ++ { e with subject := some 1 } :: rest

/-- R173, R174, R182: CLOSING DELAY in ARMED, RUNNING and HELD: the delay rises to at most 60 minutes in all and moves the due
times. In ARMED the start test is made, and the programme waits or starts; a RUNNING one goes on; and of a HELD one, whose
owner has no result, only the marks of the watch may move. The due time in the reply is that of the next step index (log
entry 31). -/
def DelaysMoveTheDueTimes : Prop :=
  ∀ (tag : Byte) (minutes total k : Nat) (x : ClosingStep) (s q : State), s.link.closed = false →
    total = min 60 (s.prog.delay + max 1 (min 60 minutes)) → q = { s with prog := { s.prog with delay := total } } →
    s.cfg.steps.get k = some x →
    let replied (t : State) : Prop :=
      Replied 0x53#8 tag (if 1 ≤ minutes ∧ minutes ≤ 60 ∧ s.prog.delay + minutes ≤ 60 then .done else .clamped)
        (BitVec.ofNat 8 total :: signedLE 3 (dueAt q x)) t
    (∀ P, s.prog.st = .armed → LowestSlot s k → IsTime s s.clock.seconds s.clock.weekday P →
      ∃ t, exec (.closingDelay tag minutes) s = .next t ∧ replied t ∧
        ((P : Int) < dueAt q x → t.prog = q.prog) ∧ (dueAt q x ≤ P → Starts 0 P q t)) ∧
    (s.prog.st = .running → s.prog.next = some k →
      ∃ t, exec (.closingDelay tag minutes) s = .next t ∧ replied t ∧ t.prog = q.prog) ∧
    (s.prog.st = .held → s.prog.next = some k →
      (s.prog.watch = none ∧
          (s.loop.st ∈ [.referencing, .starting, .running, .draining, .stopping, .braking, .creeping] ∨
            s.loop.st = .stoppedFoul ∧ s.loop.exhausted = false) ∨
        ∃ w i, s.prog.watch = some w ∧ (i, .pending) ∈ w.shutters ∧ (shutterAt s i).motion ≠ .closed ∧
          (shutterAt s i).fault = none ∧ (demandOf s i).isSome = true) →
      ∃ t, exec (.closingDelay tag minutes) s = .next t ∧ replied t ∧
        t.prog = { q.prog with watch := t.prog.watch } ∧ (s.prog.watch = none → t.prog.watch = none))

/-- R175: an ANNOUNCE or STROKES step begun more than 120 s past its due time is SKIPPED, STALE, and nothing else is
done. -/
def StaleStepsAreSkipped : Prop :=
  ∀ (c : Instr) (k P : Nat) (x : ClosingStep) (s : State), FallsDue c k x P s →
    (∃ ps zs, x.action = .announce ps zs) ∨ (∃ n ls, x.action = .strokes n ls) → dueAt s x + 120 < P →
    ∃ t, exec c s = .next t ∧ StepOver k (.skipped .stale) .stepSkipped 0 s t ∧
      OnlyChanges [.clockwork, .clock, .line, .programme, .events, .shutters, .bridges] s t

/-- R157, R176: an ANNOUNCE step enters a CLOSING record with a new handle; with the table full it drops the youngest
QUEUED GENERAL record first, and without one it is SKIPPED. Under the fire latch it is SKIPPED. -/
def AnnounceStepsEnterARecord : Prop :=
  ∀ (c : Instr) (k P : Nat) (x : ClosingStep) (ps : List Nat) (zs : Set8) (s : State), FallsDue c k x P s →
    x.action = .announce ps zs → (P : Int) ≤ dueAt s x + 120 →
    let waiting : List Ann := s.ann.table.filter (fun r =>
      decide (r.cls = .general ∧ s.ann.chanA.handle ≠ some r.handle ∧ s.ann.chanB.handle ≠ some r.handle))
    ∃ t, exec c s = .next t ∧
      (s.fire.latch = true →
        StepOver k (.skipped (.announceRefused true)) .stepSkipped (1 + 256 * 0x15) s t ∧ t.ann = s.ann) ∧
      (s.fire.latch = false → 12 ≤ s.ann.table.length → waiting = [] →
        StepOver k (.skipped (.announceRefused false)) .stepSkipped (1 + 256 * 0x16) s t ∧ t.ann = s.ann) ∧
      (s.fire.latch = false → s.ann.table.length < 12 ∨ waiting ≠ [] →
        ∃ h, StepOver k (.done (.announced h)) .stepDone 0 s t ∧ t.ann.lastHandle = h ∧ 1 ≤ h ∧ h ≤ 255 ∧
          (s.ann.table.length < 12 → ∀ r ∈ s.ann.table, r.handle ≠ h) ∧
          (12 ≤ s.ann.table.length → ∀ g, waiting.getLast? = some g → Records .announceDone (some g.handle) 2 s t) ∧
          ((∃ p ∈ ps, ∃ len use, phraseAt s p = .ready len use ∧ 1 ≤ len) →
            { handle := h, cls := .closing, zones := zs, phrases := ps, repeats := 0, restarts := 0
              entry := s.ann.nextEntry : Ann } ∈ t.ann.table))

/-- R153, R157 to R159: a closing announcement, here that of an ANNOUNCE step with every record of the table playing.
With an IDLE channel and its zones free it starts at once. Otherwise it marks the GENERAL announcements that hold a zone
of it, or, where both channels are busy and no mark stands, the GENERAL one that started latest (log entry 5), that on B of
two. A marked channel plays its phrase on; one in PASS_GAP yields at once, and the announcement starts on it where the
zones are free. -/
def ClosingCandidatesStartOrMark : Prop :=
  ∀ (c : Instr) (k P : Nat) (step : ClosingStep) (ps : List Nat) (zs : Set8) (s : State), FallsDue c k step P s →
    step.action = .announce ps zs → (P : Int) ≤ dueAt s step + 120 → s.fire.latch = false → s.ann.wanted = false →
    s.ann.table.length < 12 →
    (∀ r ∈ s.ann.table, s.ann.chanA.handle = some r.handle ∨ s.ann.chanB.handle = some r.handle) →
    ChannelsOk s →
    let ready : Prop := ∃ p, ps.head? = some p ∧ IsReady s p
    let general (ch : Chan) : Bool :=
      (channelAt s ch).handle.any (fun h =>
        (s.ann.table.find? (fun r => decide (r.handle = h))).any (fun r => decide (r.cls = .general)))
    let holds (ch : Chan) : Bool := (List.range 8).any (fun z => zs.getLsbD z && decide (s.ann.routing.get z = some ch))
    let idle (ch : Chan) : Bool := decide ((channelAt s ch).st = .idle)
    let busy : Bool := !idle .a && !idle .b
    let blocked : Bool := busy || (List.range 8).any (fun z => zs.getLsbD z && (s.ann.routing.get z).isSome)
    let noMark : Bool := [Chan.a, .b].all (fun ch => !((channelAt s ch).yield || general ch && holds ch))
    let latest (ch : Chan) : Bool :=
      general ch &&
        (!general (otherChan ch) ||
          match ch with
          | .a => decide (s.ann.chanB.startSeq < s.ann.chanA.startSeq)
          | .b => decide (s.ann.chanA.startSeq ≤ s.ann.chanB.startSeq))
    let marked (ch : Chan) : Bool := general ch && holds ch || busy && noMark && latest ch
    let due (ch : Chan) : Bool := ((channelAt s ch).yield || marked ch) && decide ((channelAt s ch).st = .passGap)
    let withMark (ch : Chan) : Channel :=
      { channelAt s ch with yield := (channelAt s ch).yield || marked ch }
    ∃ t, exec c s = .next t ∧
      let new : Ann :=
        { handle := t.ann.lastHandle, cls := .closing, zones := zs, phrases := ps, repeats := 0, restarts := 0
          entry := s.ann.nextEntry }
      let plays (ch : Chan) : Prop :=
        let x : Channel := channelAt t ch
        x.st = .phrase ∧ x.handle = some new.handle ∧ x.phrases = ps ∧ x.index = 0 ∧ x.granted = ps.head? ∧
          x.yield = false ∧
          ∀ z < 8, t.ann.routing.get z =
            if zs.getLsbD z then some ch
            else if s.ann.routing.get z = some ch ∧ idle ch = false then none
            else s.ann.routing.get z
      (∀ ch, ready → blocked = false → ch = (if idle .a then Chan.a else .b) →
        plays ch ∧ t.ann.table = s.ann.table ++ [new] ∧ channelAt t (otherChan ch) = channelAt s (otherChan ch)) ∧
      (blocked = true → due .a = false → due .b = false →
        t.ann.table = s.ann.table ++ [new] ∧ t.ann.routing = s.ann.routing ∧ t.ann.chanA = withMark .a ∧
          t.ann.chanB = withMark .b) ∧
      (∀ ch h r, ready → blocked = true → marked ch = true → due ch = true → due (otherChan ch) = false →
        idle (otherChan ch) = false → (channelAt s ch).handle = some h →
        s.ann.table.find? (fun g => decide (g.handle = h)) = some r →
        (∀ z < 8, zs.getLsbD z = true → s.ann.routing.get z = none ∨ s.ann.routing.get z = some ch) →
        plays ch ∧ channelAt t (otherChan ch) = withMark (otherChan ch) ∧
          t.ann.table =
            (if r.restarts < 2 then
              s.ann.table.map (fun g => if g.handle = h then { g with restarts := g.restarts + 1 } else g)
             else s.ann.table.filter (fun g => decide (g.handle ≠ h))) ++ [new])

/-- R123, R130 to R132, R176: a STROKES step on each line of its set: an IDLE line, one in GAP and one in the group gap
of a call take the strokes, a line in CALL or STROKES holds the larger count pending, and under fire ringing they are
discarded. -/
def StrokesStepsReachTheirLines : Prop :=
  ∀ (c : Instr) (k P n : Nat) (x : ClosingStep) (ls : Set8) (s : State), FallsDue c k x P s →
    x.action = .strokes n ls → (P : Int) ≤ dueAt s x + 120 →
    let answer (l : Nat) : StrokesResult :=
      match (lineAt s l).st with
      | .idle | .gap => .taken
      | .call =>
        if (lineAt s l).on = false ∧ (lineAt s l).timer.isSome = true ∧
            (lineAt s l).pattern.getD (lineAt s l).group 0 ≤ (lineAt s l).stroke + 1 then .taken
        else .pending
      | .strokes => .pending
      | .fireRinging | .silenced => .discarded
    ∃ t, exec c s = .next t ∧
      StepOver k
        (.done (.strokes (((List.range 8).filter (fun l => ls.getLsbD l)).map (fun l => (l, answer l))))) .stepDone 1 s t ∧
      t.bells.lamps = s.bells.lamps ∧
      ∀ l < 8, let y := lineAt t l
        if ls.getLsbD l then
          match answer l with
          | .taken =>
            y.st = .strokes ∧ y.left = n ∧ y.pending = none ∧ y.queue.length = (lineAt s l).queue.length ∧
              ((lineAt s l).striker = none →
                y.striker = some (t.time.now + s.cfg.bells.onTime) ∧ y.timer = some (t.time.now + 1000)) ∧
              ((lineAt s l).striker ≠ none → y.striker = (lineAt s l).striker ∧ y.deferred = true)
          | .pending => y = { lineAt s l with pending := some (max n ((lineAt s l).pending.getD 0)) }
          | .discarded => y = lineAt s l
        else y = lineAt s l

/-- R33, R36, R176: a LOOP_DRAIN step drains a RUNNING loop, and is SKIPPED in every other loop state. -/
def DrainStepsDrainARunningLoop : Prop :=
  ∀ (c : Instr) (k P : Nat) (x : ClosingStep) (s : State), FallsDue c k x P s → x.action = .loopDrain →
    ∃ t, exec c s = .next t ∧
      if s.loop.st = .running then
        StepOver k (.done .drained) .stepDone 2 s t ∧
          ∃ d, d.fire = false ∧ d.stopPending = false ∧ d.travel = 0 ∧ d.revs = 0 ∧
            d.drained = s.loop.cars.all (· == .count 0) ∧
            t.loop =
              { s.loop with
                st := .draining, drain := some d, refStop := .none, fireDrainPending := false, exhausted := false
                creepDelay := none
                drainTimer := if d.drained then none else some (t.time.now + 1000 * s.cfg.timing.drainNormal) }
      else
        StepOver k (.skipped (.loopNotRunning s.loop.st)) .stepSkipped (2 + 256 * s.loop.st.code) s t ∧ t.loop = s.loop

/-- R177: what a loop at rest makes of a LOOP_STOP step, and a loop that is not at rest leaves it HELD. -/
def StopStepReads (k : Nat) (s t : State) (l : Loop) (holds : Prop) : Prop :=
  if l.st ∈ [.parked, .unreferenced, .unconfigured] then StepOver k (.done (.loopAt l.st)) .stepDone 3 s t
  else if l.st = .faultStop ∨ l.st = .stoppedFoul ∧ l.exhausted = true then
    StepOver k (.skipped (.loopNotStopped l.st)) .stepSkipped (3 + 256 * l.st.code) s t
  else holds

/-- R34, R36, R177: a LOOP_STOP step places a stop with force 0 and reads the loop after it; the programme is HELD while
the loop is neither at rest nor lost to it. -/
def StopStepsWaitForTheLoop : Prop :=
  ∀ (c : Instr) (k P hold : Nat) (x : ClosingStep) (s : State), FallsDue c k x P s → x.action = .loopStop hold →
    ∃ t, exec c s = .next t ∧ StopStepReads k s t t.loop (StepHolds k hold none s t) ∧
      (s.loop.st ∈ [.stopping, .braking, .creeping, .parked, .stoppedFoul, .unreferenced, .unconfigured, .faultStop] →
        t.loop = s.loop) ∧
      (s.loop.st = .running → s.loop.cars.all (· == .count 0) = false →
        t.loop =
          { s.loop with
            st := .draining
            drain := some { fire := false, stopPending := true, drained := false, travel := 0, revs := 0 }
            drainTimer := some (t.time.now + 1000 * s.cfg.timing.drainNormal)
            refStop := .none, fireDrainPending := false, exhausted := false, creepDelay := none }) ∧
      (∀ d, s.loop.st = .draining → s.loop.drain = some d → d.drained = false →
        t.loop = { s.loop with drain := some { d with stopPending := true } }) ∧
      (s.loop.st = .referencing →
        t.loop = { s.loop with refStop := if s.loop.refStop = .stop then .stop else .drain }) ∧
      (s.loop.st = .starting → s.loop.standstill = false →
        t.loop =
          { s.loop with
            st := .braking, plan := none, creepPlan := none, window := none, exhausted := false, creepDelay := none })

/-- R76, R178: a SHUTTERS_CLOSE step offers CLOSING close demands to its group: a shutter with a fault or a FIRE demand
refuses, one that is CLOSED is satisfied, and every other has the demand and is watched. With none to watch, or every one
of them CLOSED at once, the step is over; otherwise the programme is HELD. That only a FIRE demand is PAUSED is a premise
(R87). -/
def ShutterStepsWatchTheGroup : Prop :=
  ∀ (c : Instr) (k P g hold : Nat) (x : ClosingStep) (s : State), FallsDue c k x P s → x.action = .shuttersClose g hold →
    (∀ i d, demandOf s i = some d → d.status = .paused → d.cls = .fire) →
    let group : List Nat := (List.range 24).filter (fun i => (s.cfg.shutters.get i).any (fun d => d.groups.getLsbD g))
    let refuses (i : Nat) : Bool :=
      (shutterAt s i).fault.isSome || (demandOf s i).any (fun d => decide (d.cls = .fire))
    let closed (u : State) (i : Nat) : Bool := decide ((shutterAt u i).motion = .closed)
    let placed : List Nat := group.filter (fun i => !refuses i && !closed s i)
    let satisfied : List Nat := group.filter (fun i => !refuses i && closed s i)
    let refused : List Nat := group.filter refuses
    ∃ t, exec c s = .next t ∧
      (∀ i ∈ placed, ∃ d, demandOf t i = some d ∧ d.dir = .close ∧ d.cls = .closing) ∧
      if placed.all (closed t) then
        StepOver k (.done (.shutters placed satisfied refused placed)) .stepDone 4 s t
      else
        StepHolds k hold
          (some
            { shutters := placed.map (fun i => (i, if closed t i then .ended true else .pending)), satisfied, refused })
          s t

/-- R20, R176: a LANDINGS_LOCK step locks the floors of its set that are landings. -/
def LockStepsLockTheLandings : Prop :=
  ∀ (c : Instr) (k P : Nat) (x : ClosingStep) (fs : Set8) (s : State), FallsDue c k x P s → x.action = .landingsLock fs →
    ∃ t locked, exec c s = .next t ∧ StepOver k (.done (.locked locked)) .stepDone 5 s t ∧
      (∀ l < 8, t.loop.lockout.get l =
        (s.loop.lockout.get l || (decide (l < s.cfg.geom.landings) && fs.getLsbD l))) ∧
      (∀ l < 8, locked.getLsbD l = t.loop.lockout.get l) ∧ t.loop = { s.loop with lockout := t.loop.lockout }

/-- R168, R169, R180: SET CLOCK while RUNNING or HELD. Another day than the programme day and the day after it ends the
programme and arms for the new day; a jump back, or one forward that makes no step due, changes nothing of the programme;
a jump forward past the last due time of a RUNNING programme makes it COMPLETE and missed; and a jump changes nothing of a
HELD step whose owner has no result. -/
def ClockChangesMoveTheProgramme : Prop :=
  ∀ (tag : Byte) (sec day d Q : Nat) (s : State), s.link.closed = false → sec < 86400 → day < 7 →
    s.prog.day = some d → d < 7 → IsTime s s.clock.seconds s.clock.weekday Q → s.prog.st = .running ∨ s.prog.st = .held →
    ∃ t, exec (.setClock tag sec day) s = .next t ∧
      t.clock = { isSet := true, seconds := sec, weekday := day, tickDue := s.time.now + 1000 } ∧
      Replied 0x05#8 tag .done
        (clockBytes s.clock ++ clockBytes { isSet := true, seconds := sec, weekday := day, tickDue := 0 }) t ∧
      (day ≠ d → day ≠ (d + 1) % 7 → Records .closingAborted s.prog.next 2 s t ∧ Arms true sec day s t) ∧
      (∀ P, IsTime s sec day P →
        (s.prog.st = .running → P ≤ Q → t.prog = s.prog) ∧
        (∀ k x, s.prog.st = .running → s.prog.next = some k → k < 16 → s.cfg.steps.get k = some x → P < dueAt s x →
          (∀ l z, HighestSlot s l → s.cfg.steps.get l = some z → P ≤ dueAt s z) → t.prog = s.prog) ∧
        (∀ l z, s.prog.st = .running → Q < P → HighestSlot s l → s.cfg.steps.get l = some z → dueAt s z < P →
          Records .closingMissed none 1 s t ∧
            if s.prog.pastMidnight then Arms true sec day s t
            else t.prog = { s.prog with st := .complete, next := none, hold := none, watch := none }) ∧
        (s.prog.st = .held → s.prog.watch = none →
          s.loop.st ∈ [.referencing, .starting, .running, .draining, .stopping, .braking, .creeping] ∨
            s.loop.st = .stoppedFoul ∧ s.loop.exhausted = false → t.prog = s.prog) ∧
        (∀ w i, s.prog.st = .held → s.prog.watch = some w → (i, .pending) ∈ w.shutters →
          (shutterAt s i).motion ≠ .closed → (shutterAt s i).fault = none → (demandOf s i).isSome = true →
          t.prog = { s.prog with watch := t.prog.watch }))

/-- The loop, shutter and bridge events after which a held step looks at its owner (R177, R178). -/
def ownerEvent : Instr → Bool
  | .countPulse | .pitchPulse | .datumPulse | .standstillTimer | .windowTimer | .drainTimer | .creepDelayTimer
  | .scanEvent _ _ | .travelTimer _ | .retryTimer _ | .checkSettingEnd _ _ _ | .dwellTimer _ => true
  | _ => false

/-- R177 to R179: the result of its owner ends a hold: after an event of the loop or of a shutter, a held LOOP_STOP step
reads the loop, and a held SHUTTERS_CLOSE step marks the watched shutters that are CLOSED, have a fault or have no demand,
and is over when all are ENDED. What the event itself does is what it does while the programme is COMPLETE. -/
def OwnersEndTheHold : Prop :=
  ∀ (c : Instr) (k P : Nat) (x : ClosingStep) (s u : State), ownerEvent c = true → s.prog.st = .held →
    s.prog.next = some k → k < 16 → s.cfg.steps.get k = some x → IsTime s s.clock.seconds s.clock.weekday P →
    NoneDueAbove s k P → (HighestSlot s k → s.prog.pastMidnight = false) →
    exec c { s with prog := { s.prog with st := .complete } } = .next u →
    ∃ t, exec c s = .next t ∧
      (∀ h, x.action = .loopStop h → s.prog.watch = none → StopStepReads k s t u.loop (t.prog = s.prog) ∧ t.loop = u.loop) ∧
      (∀ g h w, x.action = .shuttersClose g h → s.prog.watch = some w →
        let mark (p : Nat × WatchMark) : Nat × WatchMark :=
          (p.1,
            match p.2 with
            | .ended b => .ended b
            | .pending =>
              if (shutterAt u p.1).motion = .closed then .ended true
              else if (shutterAt u p.1).fault.isSome = true ∨ demandOf u p.1 = none then .ended false
              else .pending)
        let marked := w.shutters.map mark
        if ∀ p ∈ marked, p.2 ≠ .pending then
          StepOver k
            (.done (.shutters (marked.map Prod.fst) w.satisfied w.refused
              ((marked.filter (fun p => decide (p.2 = .ended true))).map Prod.fst))) .stepDone 4 s t
        else t.prog = { s.prog with watch := some { w with shutters := marked } })

/-! ### Runs -/

/-- The commands, taken in order, bring the part from `s` to `t`. -/
def Runs : List Instr → State → State → Prop
  | [], s, t => s = t
  | c :: cs, s, t => ∃ u, exec c s = .next u ∧ Runs cs u t

/-! ### The settings are in range (R194, R201) -/

/-- Section 1.1: the openings of the geometry are in range of its N and L. -/
def geometryOk (g : Geometry) : Bool :=
  g.dims.all dimsOk && (List.range 16).all (fun o => (g.openings.get o).all (openingOk g o))

/-- Section 3.2. -/
def zoneOk (d : ZoneDef) : Bool :=
  within 0 7 d.floor && within 0 1023 d.t1 && within 0 1023 d.t2 && within 0 1023 d.t3 && decide (d.t1 < d.t2)
    && decide (d.t2 < d.t3) && within 0 50 d.h && within 1 10 d.k && zoneGapsOk d

/-- Section 4.1. -/
def shutterOk (d : ShutterDef) : Bool :=
  within 0 7 d.floor && within 0 3 d.priority && (d.opening.isSome == (d.kind == .opening))
    && d.opening.all (within 0 15) && within 5 120 d.travel && within 5 60 d.retryDelay && within 0 5 d.retryLimit
    && within 2 20 d.firePause && within 1 10 d.pauseLimit

/-- Section 6.1. -/
def codeOk (d : CodeDef) : Bool :=
  within 1 4 d.groups.length && d.groups.all (within 1 6) && within 0 3 d.urgency && within 0 9 d.maxRepeats
    && within 15 600 d.interval

/-- Section 9.2. -/
def stepOk (x : ClosingStep) : Bool :=
  decide (-90 ≤ x.offset) && decide (x.offset ≤ 30) &&
    match x.action with
    | .announce ps zs => phraseListOk ps && zs != 0#8
    | .strokes n ls => within 1 12 n && ls != 0#8
    | .loopDrain => true
    | .loopStop hold => within 1 60 hold
    | .shuttersClose g hold => within 0 7 g && within 1 60 hold
    | .landingsLock fs => fs != 0#8

/-- Every setting lies in the range its define request accepts without clamping, every ordering holds, and every station
names a defined code (R201). -/
def settingsOk (c : Settings) : Bool :=
  geometryOk c.geom && (clampTiming c.timing == c.timing && timingOrdered c.timing) && c.zones.items.all zoneOk
    && c.shutters.items.all (fun x => x.all shutterOk)
    && (clampBridges c.bridges == c.bridges && bridgesOrdered c.bridges)
    && c.codes.items.all (fun x => x.all codeOk)
    && c.stations.items.all (fun x => x.all (fun d => within 0 7 d.line && within 0 15 d.code && (c.codes.get d.code).isSome))
    && (clampBells c.bells == c.bells && bellsOrdered c.bells)
    && c.evac.all phraseListOk && c.times.items.all closingTimeOk
    && c.steps.items.all (fun x => x.all stepOk) && offsetsOrdered c.steps.items

/-! ### Conditions that every step keeps -/

/-- The store memory is in canonical form. -/
def StoreOk (s : State) : Prop := memoryWf s.store = true

/-- The settings in force are in range. -/
def SettingsOk (s : State) : Prop := settingsOk s.cfg = true

/-- The queues keep their bounds: 48 events with a lost count of at most 255, 12 announcement records, and on each line 8
calls, never two with the same origin and code (R195, R155, R121). -/
def QueuesOk (s : State) : Prop :=
  s.link.events.length ≤ 48 ∧ s.link.lost ≤ 255 ∧ s.ann.table.length ≤ 12 ∧
    ∀ x ∈ s.bells.lines.items,
      x.queue.length ≤ 8 ∧ x.queue.Pairwise (fun a b => ¬(a.origin = b.origin ∧ a.code = b.code))

/-- The phrase records and the page map agree: a LOADING or READY phrase has a length of 1 to 1,044,480 and the pages it
needs, and a page that is owned is owned by such a phrase (R140, R141, R146). -/
def PagesOk (s : State) : Prop :=
  (∀ p < 64, phraseAt s p ≠ .empty →
    1 ≤ (phraseAt s p).length ∧ (phraseAt s p).length ≤ 1044480 ∧
      (pageList s p).length = ((phraseAt s p).length + 4095) / 4096) ∧
  ∀ g p, 1 ≤ g → g < 256 → s.phrases.owners.get g = some p → p < 64 ∧ phraseAt s p ≠ .empty

/-- The grant queue is served: while FIELD_LOST is clear, no bridge is FREE, and none that makes a sweep check is kept from
a FIRE demand, while a shutter that is connected to none waits for a bridge (R103, R104; at the end of an event, log entry
20). -/
def GrantsOk (s : State) : Prop :=
  s.field.lost = false → ∀ j d, Waiting none s j → demandOf s j = some d → ∀ b < 4,
    (bridgeAt s b).st ≠ .free ∧ (d.cls = .fire → ∀ lv due, (bridgeAt s b).st ≠ .checking .sweep lv due)

/-- The fire records agree: with the latch clear the alarmed set is empty and no zone is in ALARM, a zone is DISABLED
exactly when its enable flag is 0, and with the latch set the closing programme neither runs nor holds (R61, R62, R64,
R185); and only a programme that runs or holds is marked as past midnight (R181, log entry 25). -/
def FireOk (s : State) : Prop :=
  (s.fire.latch = false → s.fire.alarmed = 0#8) ∧
  (s.fire.latch = false → ∀ z < 8, (zoneAt s z).st ≠ .alarm) ∧
  (∀ z < 8, ((zoneAt s z).st = .disabled ↔ (zoneDef s z).enable = false)) ∧
  (s.fire.latch = true → programmeRuns s = false) ∧
  (s.prog.pastMidnight = true → programmeRuns s = true)

/-- The loop records agree: the chain position lies below the loop length, there is one occupancy for each car, the loop
is UNCONFIGURED exactly while the geometry is not valid, and the reference is NONE in UNCONFIGURED, UNREFERENCED,
REFERENCING and FAULT_STOP (R3, R7, R8, R16). -/
def LoopOk (s : State) : Prop :=
  (s.loop.c = 0 ∨ s.loop.c < s.cfg.geom.length) ∧
  s.loop.cars.length = s.cfg.geom.cars ∧
  (s.loop.st = .unconfigured ↔ s.cfg.geom.valid = false) ∧
  (s.loop.refValid = true →
    s.loop.st ≠ .unconfigured ∧ s.loop.st ≠ .unreferenced ∧ s.loop.st ≠ .referencing ∧ s.loop.st ≠ .faultStop)

end Sys2Proof.Safety
end

