-- ==== Sys2Proof/Certificates/Slice0/Obligations.lean ====
section
/-! DEFINITION. The statements for the provers. Each names in its docstring the rules or the log entries it rests on. The
frame of every command stands in `EachCommandChangesOnly`; a statement of one command repeats only what is finer. -/

open Sys2Proof Sys2Proof.Machine Sys2Proof.Safety

/-! ### The queue and the house link -/

/-- The model's queue of commands (log entry 19): a step takes the command at the front and runs it with the rest; with
no command waiting, it lets one millisecond of running time pass (log entry 4). -/
def Obligations.StepRunsTheFrontCommandOrIdles : Prop :=
  (∀ (c : Instr) (rest : List Instr) (s : State), step { s with pending := c :: rest } = exec c { s with pending := rest }) ∧
  (∀ s : State, s.pending = [] → step s = .next { s with time := { s.time with now := s.time.now + 1 } })

/-- Every command leaves every part of the state as it was but for those `mayChange` lists for it (the rules of all
chapters; the list for each command is the model's reading of them). -/
def Obligations.EachCommandChangesOnly : Prop :=
  ∀ (c : Instr) (s t : State), exec c s = .next t → OnlyChanges (mayChange (s.prog.st == .held) c) s t

/-- R191, R192, R193, R197: a request taken while the framer is not CLOSED closes it, and either its reply is composed, with
the request's kind with its highest bit set, the request's tag and the six flags as they stand then, and goes out as a
frame with its own length and check byte, or the request waits for its write. FETCH EVENTS (0x03), whose EVENTS_LOST is
given as it stood before, has a statement of its own. The attention flag is the attention line of R197, whose conditions
a part of Safety.lean lists. A request given as a command while the framer is CLOSED is lost, and the dropped-frame flag is
set: the model's choice (log entry 7). -/
def Obligations.RequestsAreAnsweredWaitOrAreLost : Prop :=
  AttentionShowsTheConditions ∧
  ∀ (c : Instr) (k tag : Byte) (s : State), kindTag c = some (k, tag) →
    (s.link.closed = false →
      ∃ t, exec c s = .next t ∧ t.link.closed = true ∧
        (t.link.waiting = some (k, tag) ∨
          t.link.waiting = none ∧ ∃ r, t.link.reply = some r ∧ r.kind = k ||| 0x80#8 ∧ r.tag = tag ∧
            (∃ check, serialOut t =
                0x7E#8 :: BitVec.ofNat 8 (4 + r.payload.length) :: r.kind :: r.tag :: BitVec.ofNat 8 r.outcome.code ::
                  r.summary :: (r.payload ++ [check]) ∧
              ((4 + r.payload.length) + ((serialOut t).drop 2).foldl (fun n b => n + b.toNat) 0) % 256 = 0) ∧
            (k ≠ 0x03#8 →
              r.summary.getLsbD 0 = t.link.restarted ∧ r.summary.getLsbD 1 = t.link.dropped ∧
                r.summary.getLsbD 2 = attention t ∧ r.summary.getLsbD 3 = t.fire.latch ∧
                r.summary.getLsbD 4 = t.link.eventsLost ∧ r.summary.getLsbD 5 = t.link.settingsDefault ∧
                r.summary.getLsbD 6 = false ∧ r.summary.getLsbD 7 = false))) ∧
    (s.link.closed = true →
      exec c s = .next { s with
        time := { s.time with seq := s.time.seq + 1 }
        link := { s.link with dropped := true, dropAgain := true } })

/-- R189, R190, R191: the framer. A byte that comes while it is CLOSED is discarded, and 0x7E sets the dropped-frame
flag; while it hunts, 0x7E starts a candidate with a gap timer of 25 ms, and another byte is discarded. The bytes of a
frame are kept as they come, each restarting the gap timer, until the check byte, at which a good frame is dispatched.
A candidate is dropped at a length byte outside 3 to 240, at a check byte with which its sum fails or its body is wholly
0x00 or wholly 0xFF, and when the gap timer expires. The framer then hunts through the bytes after the start byte
(`Hunts`, which every list of bytes meets): it keeps the candidate it finds under way, or takes the request of the whole
frame it finds. (The model's: the running time after a timed event, log entry 6.) -/
def Obligations.FramerTakesBytesAndFrames : Prop :=
  (∀ (b : Byte) (s : State), s.link.kept = [] → s.link.gap = none →
      ∃ t, exec (.serialByteReceived b) s = .next t ∧
        t = { s with
          time := { s.time with seq := s.time.seq + 1 }
          link :=
            if s.link.closed then
              if b = 0x7E#8 then { s.link with dropped := true, dropAgain := true } else s.link
            else if b = 0x7E#8 then { s.link with kept := [0x7E#8], gap := some (s.time.now + 25) }
            else s.link }) ∧
  (∀ (body : List Byte) (s : State), 3 ≤ body.length → body.length ≤ 240 → (∃ b ∈ body, b ≠ 0x00#8) →
      (∃ b ∈ body, b ≠ 0xFF#8) → s.link.closed = false →
      (∀ n b, 1 ≤ n → n + 1 < (frameOf body).length → s.link.kept = (frameOf body).take n → (frameOf body)[n]? = some b →
        exec (.serialByteReceived b) s = .next { s with
          time := { s.time with seq := s.time.seq + 1 }
          link := { s.link with kept := (frameOf body).take (n + 1), gap := some (s.time.now + 25) } }) ∧
      (∀ b, s.link.kept = (frameOf body).dropLast → (frameOf body).getLast? = some b →
        exec (.serialByteReceived b) s = .next (dispatch body { s with
          time := { s.time with seq := s.time.seq + 1 }
          link := { s.link with kept := [], gap := none } }))) ∧
  (∀ (s : State) (due : Nat) (rest : List Byte), s.link.gap = some due → s.link.kept = 0x7E#8 :: rest →
      (hunt rest).frame = none →
      ∃ t, exec .frameGapTimer s = .next t ∧ t.link.kept = (hunt rest).kept ∧ t.link.dropped = true ∧
        (t.link.gap = none ↔ (hunt rest).kept = []) ∧ t.time.now = max s.time.now due ∧
        OnlyChanges [.clockwork, .line] s t) ∧
  (∀ bs : List Byte, ∃ kept found, Hunts bs kept found) ∧
  (∀ (bs : List Byte) (b : Byte) (s : State), s.link.kept = 0x7E#8 :: bs → s.link.closed = false →
      (Partial (bs ++ [b]) →
        exec (.serialByteReceived b) s = .next { s with
          time := { s.time with seq := s.time.seq + 1 }
          link := { s.link with kept := 0x7E#8 :: (bs ++ [b]), gap := some (s.time.now + 25) } }) ∧
      (∀ kept found, Dropped (bs ++ [b]) → Hunts (bs ++ [b]) kept found →
        ∃ t, exec (.serialByteReceived b) s = .next t ∧
          TakesHunted kept found { s with time := { s.time with seq := s.time.seq + 1 } } t)) ∧
  (∀ (bs : List Byte) (due : Nat) (kept : List Byte) (found : Option (List Byte × List Byte)) (s : State),
      s.link.kept = 0x7E#8 :: bs → s.link.gap = some due → Hunts bs kept found →
      ∃ t, exec .frameGapTimer s = .next t ∧
        TakesHunted kept found
          { s with time := { s.time with now := max s.time.now due, seq := s.time.seq + 1 } } t)

/-- R192, section 11.4: the body that carries a well-formed request decodes to that request. (The model's: the lengths
of DEFINE STATION and of a DEFINE STEP with an unknown action, log entry 17.) -/
def Obligations.RequestBodiesDecodeBack : Prop :=
  ∀ (i : Instr) (body : List Byte), i.wf = true → encodeBody i = some body → decodeBody body = .request i

/-- R189, R191, R192: the check byte of the frame that carries a well-formed request does what the request does as a
command. A body of two bytes is below the least length of a frame (log entry 11). A good frame whose kind is no request kind
is answered UNKNOWN_KIND, and one whose parameters do not have the length of their kind MALFORMED; neither changes any
state. Every other good frame is some request. (The model's: the lengths of DEFINE STATION and DEFINE STEP, log entries 17
and 85.) -/
def Obligations.AFrameIsItsRequest : Prop :=
  (∀ (i : Instr) (body : List Byte) (b : Byte) (s : State), i.wf = true → encodeBody i = some body → 3 ≤ body.length →
    s.link.closed = false → s.link.kept = (frameOf body).dropLast → (frameOf body).getLast? = some b →
    exec (.serialByteReceived b) s = exec i { s with link := { s.link with kept := [], gap := none } }) ∧
  ∀ (kind tag b : Byte) (ps : List Byte) (s : State), GoodBody (kind :: tag :: ps) → s.link.closed = false →
    s.link.kept = (frameOf (kind :: tag :: ps)).dropLast → (frameOf (kind :: tag :: ps)).getLast? = some b →
    ∃ t, exec (.serialByteReceived b) s = .next t ∧
      (¬ RequestKind kind.toNat → Replied kind tag .unknownKind [] t ∧ OnlyChanges [.line] s t) ∧
      (RequestKind kind.toNat → ¬ LengthSuits kind.toNat ps → Replied kind tag .malformed [] t ∧ OnlyChanges [.line] s t) ∧
      (RequestKind kind.toNat → LengthSuits kind.toNat ps →
        ∃ i, decodeBody (kind :: tag :: ps) = .request i ∧
          exec i { s with link := { s.link with kept := [], gap := none } } = .next t)

/-- R188, R191, R193, R203, R204: when the last byte of a reply has been sent, the framer hunts again, a new link rate
takes effect, RESTARTED is cleared, and the dropped-frame flag stays set only where it was set again since the reply was
composed; the last byte of the reply to RESTART restarts the part, which leaves the whole state of a reset with the cause
RESTART (2). (The model's: what a cut write leaves, log entry 3; the reset values of its own fields and of those the manual
names no value for, log entries 13 and 37; the latched outputs, log entry 73.) -/
def Obligations.ReplySentReopensOrRestarts : Prop :=
  (∀ (s : State) (r : Reply), s.link.reply = some r → s.link.restarting = false →
      ∃ t, exec .replySent s = .next t ∧ t.link.reply = none ∧ t.link.closed = false ∧
        t.link.rate = s.link.newRate.getD s.link.rate ∧ t.link.newRate = none ∧ t.link.restarted = false ∧
        t.link.dropped = s.link.dropAgain ∧ OnlyChanges [.line, .flags] s t) ∧
  (∀ (s : State) (r : Reply), s.link.reply = some r → s.link.restarting = true →
      ∃ t, exec .replySent s = .next t ∧
        ResetLeaves 2 { s with time := { s.time with seq := s.time.seq + 1 } } t)

/-- R22 to R24, R67, R98, R116, R137, R151, R167, R186, R198, R199: IDENTIFY and the queries, with their refusals; none
changes anything but the line. The bytes of each payload are the model's reading of the fields the rule names (log
entries 9, 44 and 45; how levels are packed, the order of the calls, the phase while a first stroke waits, and a
channel's handle, log entries 66 to 68 and 72; the order of the announcement records, log entry 57; the landing lamp's
code, the time to due of a call past it, and the lamp state during a flash, log entries 75 to 77; other single fields, log
entries 82 to 84, 86 and 87); IDENTIFY gives the part
code 4720 and the fixed capacities, with a vendor code and a revision that are free values (log entry 1). -/
def Obligations.QueriesAreAnswered : Prop :=
  (∀ (tag : Byte) (s : State), s.link.closed = false →
      ∃ t vendorLow vendorHigh, exec (.identify tag) s = .next t ∧
        BitVec.append vendorHigh vendorLow = Config.vendorCode ∧
        Replied 0x01#8 tag .done
          ([vendorLow, vendorHigh, 0x70#8, 0x12#8, Config.revision] ++
            [24#8, 8#8, 24#8, 4#8, 8#8, 8#8, 48#8, 16#8, 8#8, 8#8, 2#8, 12#8, 64#8, 0#8, 1#8, 16#8, 48#8, 16#8, 240#8,
              224#8]) t ∧
        OnlyChanges [.line] s t) ∧
  (∀ (tag : Byte) (s : State), s.link.closed = false →
      (∃ t, exec (.status tag) s = .next t ∧ Replied 0x02#8 tag .done (statusPayload s) t ∧ OnlyChanges [.line] s t) ∧
      (∃ t, exec (.queryLoop tag) s = .next t ∧ Replied 0x18#8 tag .done (queryLoopPayload s) t ∧
        OnlyChanges [.line] s t) ∧
      (∃ t, exec (.queryZones tag) s = .next t ∧
        Replied 0x21#8 tag .done
          (flagByte s.fire.latch ++ [s.fire.alarmed] ++ (List.range 8).flatMap (zoneEntry s)) t ∧
        OnlyChanges [.line] s t) ∧
      (∃ t, exec (.queryBridges tag) s = .next t ∧ Replied 0x2E#8 tag .done (queryBridgesPayload s) t ∧
        OnlyChanges [.line] s t) ∧
      (∃ t, exec (.queryAnnouncements tag) s = .next t ∧ Replied 0x4B#8 tag .done (queryAnnouncementsPayload s) t ∧
        OnlyChanges [.line] s t)) ∧
  (∀ (tag : Byte) (m : Member) (n : Nat) (s : State), s.link.closed = false →
      (∃ t, exec (.queryCars tag) s = .next t ∧ OnlyChanges [.line] s t ∧
        match s.cfg.geom.dims with
        | none => Replied 0x19#8 tag .wrongState [] t
        | some d => Replied 0x19#8 tag .done (bytesLE 1 d.n ++ (List.range d.n).flatMap (carBytes s)) t) ∧
      (∃ t, exec (.queryLanding tag m) s = .next t ∧ OnlyChanges [.line] s t ∧
        match m with
        | .all => Replied 0x1A#8 tag .scopeNotSingle [] t
        | .one l =>
          if l < s.cfg.geom.landings then
            Replied 0x1A#8 tag .done
              (bytesLE 1 l ++ flagByte (s.loop.lockout.get l) ++ acceptedByte (acceptedAt s (48 + l))
                ++ openingBytes s (2 * l) ++ openingBytes s (2 * l + 1)) t
          else Replied 0x1A#8 tag .badValue [] t) ∧
      (∃ t, exec (.queryShutter tag m) s = .next t ∧ OnlyChanges [.line] s t ∧
        match m with
        | .all => Replied 0x2C#8 tag .scopeNotSingle [] t
        | .one i =>
          if i < 24 then
            match s.cfg.shutters.get i with
            | none => Replied 0x2C#8 tag .done [0#8] t
            | some d => Replied 0x2C#8 tag .done (shutterPayload s i d) t
          else Replied 0x2C#8 tag .badValue [] t) ∧
      (∃ t, exec (.queryBellLine tag m n) s = .next t ∧ OnlyChanges [.line] s t ∧
        match m with
        | .all => Replied 0x36#8 tag .scopeNotSingle [] t
        | .one l =>
          if l < 8 ∧ n < 48 then Replied 0x36#8 tag .done (queryLinePayload s l n) t
          else Replied 0x36#8 tag .badValue [] t) ∧
      (∃ t, exec (.queryPhrases tag n) s = .next t ∧ OnlyChanges [.line] s t ∧
        if n < 64 then
          Replied 0x44#8 tag .done
            (bytesLE 1 (freePages s).length ++ bytesLE 1 (255 - (freePages s).length) ++ bytesLE 1 s.phrases.dir.code
              ++ (((List.range 64).drop n).take 16).flatMap (phraseRecord s)) t
        else Replied 0x44#8 tag .badValue [] t) ∧
      (∃ t, exec (.queryClosing tag n) s = .next t ∧ OnlyChanges [.line] s t ∧
        if n < 16 then Replied 0x55#8 tag .done (queryClosingPayload s n) t else Replied 0x55#8 tag .badValue [] t))

/-- R193, R196: FETCH EVENTS with a count of 1 to 8 removes the oldest records and returns them with the numbers returned,
remaining and lost; a removal that leaves the queue empty clears EVENTS_LOST and the lost count. The reply's summary shows
EVENTS_LOST as it stood before, and the five other flags of R193 as they stand after the removal. (The model's: the bytes of
a payload, log entry 9.) -/
def Obligations.FetchEventsRemovesTheOldest : Prop :=
  ∀ (tag : Byte) (n : Nat) (s : State), s.link.closed = false →
    ∃ t, exec (.fetchEvents tag n) s = .next t ∧ OnlyChanges [.line, .events] s t ∧
      if 1 ≤ n ∧ n ≤ 8 then
        t.link.events = s.link.events.drop n ∧
        (s.link.events.length ≤ n → t.link.eventsLost = false ∧ t.link.lost = 0) ∧
        (n < s.link.events.length → t.link.eventsLost = s.link.eventsLost ∧ t.link.lost = s.link.lost) ∧
        Replied 0x03#8 tag .done
          (bytesLE 1 (min n s.link.events.length) ++ bytesLE 1 (s.link.events.length - n) ++ bytesLE 1 s.link.lost
            ++ (s.link.events.take n).flatMap eventBytes) t ∧
        ∀ r, t.link.reply = some r →
          r.summary.getLsbD 0 = s.link.restarted ∧ r.summary.getLsbD 1 = t.link.dropped ∧
            r.summary.getLsbD 2 = attention t ∧ r.summary.getLsbD 3 = s.fire.latch ∧
            r.summary.getLsbD 4 = s.link.eventsLost ∧ r.summary.getLsbD 5 = s.link.settingsDefault ∧
            r.summary.getLsbD 6 = false ∧ r.summary.getLsbD 7 = false
      else
        Replied 0x03#8 tag .badValue [] t ∧ OnlyChanges [.line] s t ∧
          ∀ r, t.link.reply = some r →
            r.summary.getLsbD 0 = s.link.restarted ∧ r.summary.getLsbD 1 = t.link.dropped ∧
              r.summary.getLsbD 2 = attention t ∧ r.summary.getLsbD 3 = s.fire.latch ∧
              r.summary.getLsbD 4 = s.link.eventsLost ∧ r.summary.getLsbD 5 = s.link.settingsDefault

/-- R188, R203: SET LINK RATE takes one of the five rates and keeps the rate in force until its reply is sent; RESTART
is refused while a contactor is closed or a bridge is CHECKING, DRIVING or DWELL, and waits for the end of its reply
otherwise. (The model's: the bytes of a payload, log entry 9.) -/
def Obligations.LinkRateAndRestartWaitForTheirReply : Prop :=
  ∀ (tag : Byte) (rate : Nat) (s : State), s.link.closed = false →
    (∃ t, exec (.setLinkRate tag rate) s = .next t ∧ t.link.rate = s.link.rate ∧ OnlyChanges [.line, .flags] s t ∧
      if rate ∈ [9600, 19200, 38400, 57600, 115200] then
        t.link.newRate = some rate ∧ Replied 0x06#8 tag .done (bytesLE 3 rate) t
      else t.link.newRate = s.link.newRate ∧ Replied 0x06#8 tag .badValue [] t) ∧
    (∃ t, exec (.restart tag) s = .next t ∧ OnlyChanges [.line, .flags] s t ∧
      if contactorClosed s = true ∨ (restartBar s).isSome = true then
        t.link.restarting = s.link.restarting ∧
          Replied 0x08#8 tag .wrongState (bytesLE 1 s.loop.st.code ++ optLE 1 (restartBar s)) t
      else t.link.restarting = true ∧ Replied 0x08#8 tag .done [] t)

/-- R202, R149: SAVE SETTINGS on an idle store port, with the settings in range, and the five transfers that follow it,
leave the image of the settings in force at the start of page 0 and no other byte changed; the reply comes with the last
transfer, at which SETTINGS_DEFAULT and the settings-changed flag are cleared. (The model's: the byte order of the check
word, log entry 36; five transfers of 256 bytes, log entry 79.) -/
def Obligations.SaveSettingsWritesTheImage : Prop :=
  ∀ (tag : Byte) (s : State), SettingsOk s → s.link.closed = false → memoryWf s.store = true → s.phrases.busy = none →
    s.phrases.waitA = none → s.phrases.waitB = none →
    (∃ t, exec (.saveSettings tag) s = .next t ∧ AwaitsWrite 0x07#8 tag t ∧ t.store = s.store) ∧
    (∃ t, Runs (.saveSettings tag :: List.replicate 5 .writeTransferDone) s t ∧
      readBytes t.store 0 1280 = settingsImage s.cfg ∧
      (∀ a, 1280 ≤ a → readByte t.store a = readByte s.store a) ∧ memoryWf t.store = true ∧
      Replied 0x07#8 tag .done [] t ∧ t.link.settingsDefault = false ∧ t.link.settingsChanged = false ∧
      t.phrases.busy = none ∧ t.phrases.stream = none)

/-- R201, R202, section 11.7: the image of settings that are in range loads back as those settings, with the source
LOADED. (The model's: how an unset geometry value is stored, log entry 10; the
byte order of the check word, log entry 36.) -/
def Obligations.SettingsImageLoadsBack : Prop :=
  ∀ c : Settings, settingsOk c = true → loadSettings (settingsImage c) = (c, .loaded)

/-- R51, R96, R113, R200: CLEAR FAULTS with each kind of target and each refusal. LOOP: nothing to clear outside
FAULT_STOP, refused there while the loop may not leave it. SHUTTER and BRIDGE: one id or ALL; an id out of range or an
undefined shutter is refused, so is one shutter with both limits active, and ALL answers with the shutters that keep
their fault. A target kind that is none of the three is refused. (The model's: the bytes of a payload, log entries 9 and
87; the id byte with the kind LOOP, log entry 62.) -/
def Obligations.ClearFaultsClearsOneTarget : Prop :=
  ∀ (tag : Byte) (s : State), s.link.closed = false → s.prog.st ≠ .held →
    let faulty (i : Nat) : Bool := isDefined s i && (shutterAt s i).fault.isSome
    let cleared (t : State) (i : Nat) : Prop :=
      (shutterAt t i).fault = none ∧ (shutterAt t i).obstructions = 0 ∧
        ((shutterAt s i).motion.driven = false → (shutterAt t i).motion = limitsMotion s i)
    let restored (t : State) (b : Nat) : Prop :=
      (bridgeAt t b).st ≠ .outOfService ∧ (bridgeAt t b).suspect = none ∧ (bridgeAt t b).withdrawn = none ∧
        ((bridgeAt s b).st ≠ .outOfService → (bridgeAt s b).st ≠ .free →
          (∀ lv due, (bridgeAt s b).st ≠ .checking .sweep lv due) →
          bridgeAt t b = { bridgeAt s b with suspect := none, withdrawn := none })
    (∀ m, s.loop.st ≠ .faultStop →
      ∃ t, exec (.clearFaults tag 0 m) s = .next t ∧ Replied 0x04#8 tag .done [] t ∧ OnlyChanges [.line] s t) ∧
    (∀ m, s.loop.st = .faultStop → s.loop.standstill = false ∨ stopInputActive s = true ∨ s.field.lost = true →
      ∃ t, exec (.clearFaults tag 0 m) s = .next t ∧ Replied 0x04#8 tag .wrongState [] t ∧ OnlyChanges [.line] s t) ∧
    (∀ m, s.loop.st = .faultStop → s.loop.standstill = true → stopInputActive s = false → s.field.lost = false →
      ∃ t, exec (.clearFaults tag 0 m) s = .next t ∧ Replied 0x04#8 tag .done [] t ∧ t.loop.st = .unreferenced ∧
        t.loop.fault = none ∧ t.loop.refValid = s.loop.refValid ∧ t.loop.attempts = s.loop.attempts) ∧
    (∀ i, ∃ t, exec (.clearFaults tag 1 (.one i)) s = .next t ∧
      if ¬(i < 24 ∧ isDefined s i = true) then Replied 0x04#8 tag .badValue [] t ∧ OnlyChanges [.line] s t
      else if faulty i = false then Replied 0x04#8 tag .done [] t ∧ OnlyChanges [.line] s t
      else if bothLimits s i = true then Replied 0x04#8 tag .wrongState [] t ∧ OnlyChanges [.line] s t
      else Replied 0x04#8 tag .done [] t ∧ cleared t i) ∧
    (∃ t, exec (.clearFaults tag 1 .all) s = .next t ∧
      Replied 0x04#8 tag .done (setBytes 3 ((List.range 24).filter (fun i => faulty i && bothLimits s i))) t ∧
      ∀ i < 24,
        if faulty i = true ∧ bothLimits s i = false then cleared t i
        else
          (shutterAt t i).fault = (shutterAt s i).fault ∧ (shutterAt t i).motion = (shutterAt s i).motion ∧
            (shutterAt t i).obstructions = (shutterAt s i).obstructions) ∧
    (∀ b, ∃ t, exec (.clearFaults tag 2 (.one b)) s = .next t ∧
      if 4 ≤ b then Replied 0x04#8 tag .badValue [] t ∧ OnlyChanges [.line] s t
      else Replied 0x04#8 tag .done [] t ∧ restored t b) ∧
    (∃ t, exec (.clearFaults tag 2 .all) s = .next t ∧ Replied 0x04#8 tag .done [] t ∧ ∀ b < 4, restored t b) ∧
    (∀ k m, 3 ≤ k →
      ∃ t, exec (.clearFaults tag k m) s = .next t ∧ Replied 0x04#8 tag .badValue [] t ∧ OnlyChanges [.line] s t)

/-- R25, R28, R53, R68, R99, R123, R138, R146, R152, R168, R187, R201, R204: power-on and the reset pin leave every part
of the live state at its reset values, the running time at 0 with the first scan and the first conversion ahead, the bridge
and field outputs off, with the settings and the directory that the store memory's sections give, START_UP first in the event
queue with what was found, and DIRECTORY_LOST after it where the directory is lost, whatever the part was doing. A directory
that was not good is written anew. (The model's: the reset values of its own fields and of those the manual names no value
for, log entries 13 and 37; what a cut write leaves, log entry 3; the stored length of an EMPTY phrase, log entry 71; the
outputs the cards have latched, log entry 73.) -/
def Obligations.ResetLeavesTheResetState : Prop :=
  ∀ s : State, ∀ c ∈ [(Instr.powerOn, 0), (Instr.resetPin, 1)], ∃ t, exec c.1 s = .next t ∧ ResetLeaves c.2 s t

/-! ### Settings that are tuning values -/

/-- R27, R115, R136: every value outside its range is brought to the nearer limit, the orderings are tested on the
clamped values, and with an ordering broken nothing changes. A timer that runs keeps its expiry, but the sweep timer
starts anew. (The model's: the bytes of a payload, log entry 9.) -/
def Obligations.TuningRequestsClampAndOrder : Prop :=
  ∀ (tag : Byte) (s : State), s.link.closed = false →
    (∀ v w : LoopTiming,
      w =
        { pTol := max 1 (min 16 v.pTol), standstill := max 200 (min 2000 v.standstill)
          tMin := max 1000 (min 30000 v.tMin), tMax := max 2000 (min 60000 v.tMax)
          tStart := max 2000 (min 30000 v.tStart), tNom := max 1000 (min 60000 v.tNom)
          tcMin := max 2000 (min 60000 v.tcMin), tcMax := max 4000 (min 120000 v.tcMax)
          decel := max 1 (min 64 v.decel), rDrain := max 1 (min 3 v.rDrain)
          drainNormal := max 60 (min 1800 v.drainNormal), drainFire := max 20 (min 300 v.drainFire)
          creepLimit := min 5 v.creepLimit, creepDelay := max 1 (min 10 v.creepDelay)
          creepStop := max 1 (min 32 v.creepStop) } →
      ∃ t, exec (.defineLoopTiming tag v) s = .next t ∧
        if w.tMin + 500 ≤ w.tMax ∧ w.tcMin + 500 ≤ w.tcMax then
          t.cfg = { s.cfg with timing := w } ∧ MarkedChanged s t ∧
            Replied 0x12#8 tag (if w = v then .done else .clamped) (timingBytes w) t ∧
            OnlyChanges [.line, .settings, .marks] s t
        else Replied 0x12#8 tag .badValue [] t ∧ OnlyChanges [.line] s t) ∧
    (∀ v w : BridgeParams,
      w =
        { sweep := min 240 v.sweep, stall := max 100 (min 1023 v.stall), openThr := min 200 v.openThr
          dwell := max 100 (min 1000 v.dwell), grace := max 100 (min 1000 v.grace) } →
      ∃ t, exec (.defineBridges tag v) s = .next t ∧
        if w.openThr < w.stall then
          t.cfg = { s.cfg with bridges := w } ∧ MarkedChanged s t ∧
            t.bridges =
              { s.bridges with
                sweepTimer := if w.sweep = 0 then none else some (s.time.now + 60000 * w.sweep)
                sweepDue := if w.sweep = 0 then false else s.bridges.sweepDue } ∧
            Replied 0x2D#8 tag (if w = v then .done else .clamped) (bridgeBytes w) t ∧
            OnlyChanges [.line, .settings, .marks, .bridges] s t
        else Replied 0x2D#8 tag .badValue [] t ∧ OnlyChanges [.line] s t) ∧
    (∀ v w : BellTiming,
      w =
        { onTime := max 40 (min 250 v.onTime), strokeGap := max 150 (min 800 v.strokeGap)
          groupGap := max 500 (min 2000 v.groupGap), codeGap := max 1000 (min 6000 v.codeGap)
          firePeriod := max 300 (min 2000 v.firePeriod) } →
      ∃ t, exec (.defineBellTiming tag v) s = .next t ∧
        if w.strokeGap < w.groupGap then
          t.cfg = { s.cfg with bells := w } ∧ MarkedChanged s t ∧
            Replied 0x32#8 tag (if w = v then .done else .clamped) (bellBytes w) t ∧
            OnlyChanges [.line, .settings, .marks] s t
        else Replied 0x32#8 tag .badValue [] t ∧ OnlyChanges [.line] s t)

/-! ### The loop: geometry and requests -/

/-- R1, R2, R3, R6: DEFINE LOOP and DEFINE OPENING: the range tests, the state gate, the clear-list test, and what a
geometry change leaves. -/
def Obligations.GeometryRequestsChangeTheGeometry : Prop :=
  ∀ (tag : Byte) (s : State), s.link.closed = false → s.prog.st ≠ .held →
    let changed (k : Byte) (g : Geometry) (t : State) : Prop :=
      if geometryGate s = false then Replied k tag .wrongState [] t ∧ OnlyChanges [.line] s t
      else if g.dims.isSome = true ∧ g.clearList = [] ∧ (∀ o < 2 * g.landings, (g.openings.get o).isSome = true) then
        Replied k tag .badValue [] t ∧ OnlyChanges [.line] s t
      else
        t.cfg = { s.cfg with geom := g } ∧ MarkedChanged s t ∧ Replied k tag .done [] t ∧
          t.loop.c = 0 ∧ t.loop.refValid = false ∧ t.loop.cars = List.replicate g.cars Occ.unknown ∧
          t.loop.recognisers = Tab.fill 16 .waitClear ∧ t.loop.watches = Tab.fill 16 .idle ∧ t.loop.fault = none ∧
          t.loop.st = (if g.valid then .unreferenced else .unconfigured) ∧ t.loop.attempts = s.loop.attempts ∧
          (∀ l < 8, t.loop.lockout.get l = (decide (l < g.landings) && s.loop.lockout.get l))
    (∀ n l w,
      ∃ t, exec (.defineLoop tag n l w) s = .next t ∧
        if 6 ≤ n ∧ n ≤ 24 ∧ 2 ≤ l ∧ l ≤ 8 ∧ 4 ≤ w ∧ w ≤ 64 then
          ∀ g : Geometry, g.dims = some { n, l, wMin := w } →
            (∀ o < 16, g.openings.get o = if s.cfg.geom.cars = n ∧ o < 2 * l then s.cfg.geom.openings.get o else none) →
            changed 0x10#8 g t
        else Replied 0x10#8 tag .badValue [] t ∧ OnlyChanges [.line] s t) ∧
    (∀ o sill below above,
      ∃ t, exec (.defineOpening tag o sill below above) s = .next t ∧
        match s.cfg.geom.dims with
        | none => Replied 0x11#8 tag .wrongState [] t ∧ OnlyChanges [.line] s t
        | some d =>
          if o < 2 * d.l ∧ sill < 256 * d.n ∧ below ≤ 127 ∧ above ≤ 127 then
            changed 0x11#8 { s.cfg.geom with openings := s.cfg.geom.openings.put o (some { sill, below, above }) } t
          else Replied 0x11#8 tag .badValue [] t ∧ OnlyChanges [.line] s t)

/-- R32: LOOP START: its tests in their order, and its effect from each state. (The model's: the bytes of a payload, log
entry 9.) -/
def Obligations.LoopStartFromEachState : Prop :=
  ∀ (tag : Byte) (s : State), s.link.closed = false → s.prog.st ≠ .held →
    ∃ t, exec (.loopStart tag) s = .next t ∧
      if s.fire.latch = true then Replied 0x13#8 tag .fireMode [] t ∧ OnlyChanges [.line] s t
      else if s.loop.st ∈ [.braking, .creeping, .faultStop, .unconfigured] then
        Replied 0x13#8 tag .wrongState [] t ∧ OnlyChanges [.line] s t
      else if s.loop.st ∈ [.running, .starting, .referencing] then
        Replied 0x13#8 tag .done [] t ∧ OnlyChanges [.line] s t
      else if s.loop.st ∈ [.unreferenced, .parked, .stoppedFoul] ∧ (stopInputActive s = true ∨ s.field.lost = true) then
        Replied 0x13#8 tag .wrongState [] t ∧ OnlyChanges [.line] s t
      else
        match openingShutterFails s with
        | some i => Replied 0x13#8 tag .wrongState (bytesLE 1 i) t ∧ OnlyChanges [.line] s t
        | none =>
          Replied 0x13#8 tag .done [] t ∧
            (s.loop.st = .unreferenced →
              t.loop =
                { s.loop with
                  st := .referencing, refPitch := 0, refStop := .none, fireDrainPending := false, drain := none
                  drainTimer := none, closing := 0, attempts := 0, exhausted := false, creepDelay := none
                  window := some (s.time.now + s.cfg.timing.tStart) }) ∧
            (s.loop.st = .parked ∨ s.loop.st = .stoppedFoul →
              t.loop =
                { s.loop with
                  st := .starting, closing := 0, attempts := 0, exhausted := false, creepDelay := none
                  window := some (s.time.now + s.cfg.timing.tStart) }) ∧
            (s.loop.st = .draining ∨ s.loop.st = .stopping →
              t.loop =
                { s.loop with
                  st := .running, drain := none, drainTimer := none, plan := none, refStop := .none
                  fireDrainPending := false, exhausted := false, creepDelay := none })

/-- R33: LOOP DRAIN. -/
def Obligations.LoopDrainFromEachState : Prop :=
  ∀ (tag : Byte) (s : State), s.link.closed = false → s.prog.st ≠ .held →
    ∃ t, exec (.loopDrain tag) s = .next t ∧
      match s.loop.st with
      | .running =>
        Replied 0x14#8 tag .done [] t ∧ t.loop.st = .draining ∧
          ∃ d, t.loop.drain = some d ∧ d.fire = false ∧ d.stopPending = false ∧ d.travel = 0 ∧ d.revs = 0 ∧
            d.drained = s.loop.cars.all (· == .count 0) ∧
            t.loop =
              { s.loop with
                st := .draining, drain := some d, refStop := .none, fireDrainPending := false, exhausted := false
                creepDelay := none
                drainTimer := if d.drained then none else some (s.time.now + 1000 * s.cfg.timing.drainNormal) }
      | .referencing | .starting | .draining | .stopping | .braking | .creeping =>
        Replied 0x14#8 tag .done [] t ∧ OnlyChanges [.line] s t
      | .unconfigured | .unreferenced | .parked | .stoppedFoul | .faultStop =>
        Replied 0x14#8 tag .wrongState [] t ∧ OnlyChanges [.line] s t

/-- R34, R39, R43: LOOP STOP from each state; where it enters STOPPING, the stop plan is the one the three steps of R43
give, for the interval T of R29. -/
def Obligations.LoopStopFromEachState : Prop :=
  ∀ (tag : Byte) (force : Nat) (s : State), s.link.closed = false → s.prog.st ≠ .held →
    ∃ t, exec (.loopStop tag force) s = .next t ∧
      if 2 ≤ force then Replied 0x15#8 tag .badValue [] t ∧ OnlyChanges [.line] s t
      else
        Replied 0x15#8 tag .done [] t ∧
        (s.loop.st = .running → force = 0 → s.loop.cars.all (· == .count 0) = false →
          t.loop =
            { s.loop with
              st := .draining
              drain := some { fire := false, stopPending := true, drained := false, travel := 0, revs := 0 }
              drainTimer := some (s.time.now + 1000 * s.cfg.timing.drainNormal)
              refStop := .none, fireDrainPending := false, exhausted := false, creepDelay := none }) ∧
        (∀ d, s.loop.st = .draining → s.loop.drain = some d → force = 0 → d.drained = false →
          t.loop = { s.loop with drain := some { d with stopPending := true } }) ∧
        (s.loop.st = .referencing →
          t.loop = { s.loop with refStop := if force = 1 ∨ s.loop.refStop = .stop then .stop else .drain }) ∧
        (s.loop.st = .starting → s.loop.standstill = false →
          t.loop =
            { s.loop with
              st := .braking, plan := none, creepPlan := none, window := none, exhausted := false
              creepDelay := none }) ∧
        (s.loop.st ∈ [.stopping, .braking, .creeping, .parked, .stoppedFoul, .unreferenced, .unconfigured, .faultStop] →
          t.loop = s.loop ∧ OnlyChanges [.line, .shutters, .bridges] s t) ∧
        (∀ T v raw b q d,
          (s.loop.st = .running ∧ force = 1 ∨ s.loop.st = .draining ∧ force = 1 ∨
            s.loop.st = .draining ∧ s.loop.drain.any (·.drained) = true) →
          (if s.loop.closing = 2 then s.loop.interval = some T
            else T = max s.cfg.timing.tMin (min s.cfg.timing.tMax s.cfg.timing.tNom)) →
          s.cfg.timing.tMin ≤ s.cfg.timing.tMax → v = 256000 / T →
          raw = (v * v + 2 * s.cfg.timing.decel - 1) / (2 * s.cfg.timing.decel) → b = min raw 1023 →
          Nearest s.cfg.geom (s.loop.c % 256) b q d → b < d → d + 256 ≤ s.cfg.geom.length →
          (1023 < raw → Queued .stopClamped none raw s t) ∧
          t.loop =
            { s.loop with
              st := .stopping
              plan := some
                { speed := v, braking := b, targetPhase := q, target := (s.loop.c + d) % s.cfg.geom.length
                  command := d - b }
              drain := none, drainTimer := none, refStop := .none, fireDrainPending := false, exhausted := false
              creepDelay := none })

/-- R35, R47, R48: LOOP CREEP and the end of the creep delay begin a creep toward the nearest target, or brake at once
when the creep distance is the creep stop distance; an OPENING shutter that fails its test bars both. (The model's: the
running time after a timed event, log entry 6; the bytes of a payload, log entry 9.) -/
def Obligations.CreepBeginsTowardTheNearestTarget : Prop :=
  ∀ (tag : Byte) (due q d : Nat) (s : State), s.link.closed = false → s.prog.st ≠ .held →
    Nearest s.cfg.geom (s.loop.c % 256) s.cfg.timing.creepStop q d →
    (∃ t, exec (.loopCreep tag) s = .next t ∧
      if s.loop.st = .stoppedFoul then
        match openingShutterFails s with
        | some i => Replied 0x16#8 tag .wrongState (bytesLE 1 i) t ∧ OnlyChanges [.line] s t
        | none =>
          Replied 0x16#8 tag .done [] t ∧ (s.cfg.timing.creepStop < d →
            t.loop =
              { s.loop with
                st := .creeping, attempts := 0, exhausted := false, creepDelay := none, plan := none
                creepPlan := some
                  { targetPhase := q, target := (s.loop.c + d) % s.cfg.geom.length, distance := d }
                closing := 0, window := some (s.time.now + s.cfg.timing.tcMax) }) ∧
            (d = s.cfg.timing.creepStop → s.loop.standstill = false → t.loop.st = .braking ∧ t.loop.attempts = 0)
      else Replied 0x16#8 tag .wrongState [] t ∧ OnlyChanges [.line] s t) ∧
    (s.loop.creepDelay = some due → s.loop.st = .stoppedFoul →
      ∃ t, exec .creepDelayTimer s = .next t ∧ t.time.now = max s.time.now due ∧
        match openingShutterFails s with
        | some i =>
          t.loop = { s.loop with creepDelay := none, exhausted := true } ∧
            Queued .creepExhausted (some i) s.loop.attempts s t
        | none =>
          (s.cfg.timing.creepStop < d →
            t.loop =
              { s.loop with
                st := .creeping, exhausted := false, creepDelay := none, plan := none
                creepPlan := some
                  { targetPhase := q, target := (s.loop.c + d) % s.cfg.geom.length, distance := d }
                closing := 0, window := some (max s.time.now due + s.cfg.timing.tcMax) }) ∧
          (d = s.cfg.timing.creepStop → s.loop.standstill = false → t.loop.st = .braking))

/-- R20: LANDING LOCKOUT, in every loop state and with the fire latch set or clear: the flag of the named landing, or of
every landing 0 to L−1, is set by LOCK (1) and cleared by UNLOCK (0), with the refusals; the same request with a set of
floors, as a LANDINGS_LOCK step places it; what any reset leaves; and what a geometry change keeps. (The model's: the
refusal of a setting byte other than 0 and 1, log entry 48.) -/
def Obligations.LandingLockoutSetsTheFlags : Prop :=
  (∀ (tag : Byte) (m : Member) (x : Nat) (s : State), s.link.closed = false →
    ∃ t, exec (.landingLockout tag m x) s = .next t ∧
      match s.cfg.geom.dims with
      | none => Replied 0x17#8 tag .wrongState [] t ∧ OnlyChanges [.line] s t
      | some d =>
        if 2 ≤ x ∨ (match m with | .one l => decide (d.l ≤ l) | .all => false) = true then
          Replied 0x17#8 tag .badValue [] t ∧ OnlyChanges [.line] s t
        else
          Replied 0x17#8 tag .done [] t ∧ OnlyChanges [.line, .loop] s t ∧
            t.loop = { s.loop with lockout := t.loop.lockout } ∧
            ∀ l < 8, t.loop.lockout.get l =
              if l < d.l ∧ (m = .all ∨ m = .one l) then decide (x = 1) else s.loop.lockout.get l) ∧
  (∀ (k : Nat) (x : ClosingStep) (floors : Set8) (s : State), x.action = .landingsLock floors →
    (beginStep k x s).1.loop = { s.loop with lockout := (beginStep k x s).1.loop.lockout } ∧
      ∀ l < 8, (beginStep k x s).1.loop.lockout.get l =
        (s.loop.lockout.get l || (decide (l < s.cfg.geom.landings) && floors.getLsbD l))) ∧
  (∀ s : State,
    (∀ c ∈ [Instr.powerOn, .resetPin], ∃ t, exec c s = .next t ∧ ∀ l < 8, t.loop.lockout.get l = false) ∧
      (∀ r, s.link.reply = some r → s.link.restarting = true →
        ∃ t, exec .replySent s = .next t ∧ ∀ l < 8, t.loop.lockout.get l = false)) ∧
  (∀ (c : Instr) (s t : State), s.prog.st ≠ .held →
    ((∃ tag n l w, c = .defineLoop tag n l w) ∨ ∃ tag o sill below above, c = .defineOpening tag o sill below above) →
    exec c s = .next t → ∀ l < 8, l < t.cfg.geom.landings → t.loop.lockout.get l = s.loop.lockout.get l)

/-! ### The loop: pulses and timers -/

/-- R7, R14, R28, R39 to R41, R44, R46, R48: a count pulse advances the chain position modulo the loop length, clears
standstill and restarts its timer, in every loop state; at rest without a reference it does nothing else to the loop.
One that brings the phase past the entry phase of an opening whose watch is still ARMED raises SILL_MISMATCH (7); with
no such opening, the RUN contactor of a STOPPING loop opens when the remaining distance is at most the braking distance,
watches are armed and end, a drain counts its travel and its revolutions to DRAIN_DONE, a creep ends, and a PARKED loop
that drifts is STOPPED_FOUL, as a part of Safety.lean says. (The model's: the end of a drain at a count
of at least R_drain, log entry 26 (DEDUCED); of several such openings the lowest-numbered, the watches before the stop
command, and the opening a drift names, log entry 46.) -/
def Obligations.CountPulse : Prop :=
  (∀ s : State, s.prog.st ≠ .held →
      ∃ t, exec .countPulse s = .next t ∧
        t.loop.c = (if s.cfg.geom.dims.isSome then (s.loop.c + 1) % (256 * s.cfg.geom.cars) else 0) ∧
        t.loop.standstill = false ∧ t.loop.standTimer = some (s.time.now + s.cfg.timing.standstill) ∧
        t.loop.lastPitch = s.loop.lastPitch ∧ t.loop.interval = s.loop.interval ∧ t.loop.closing = s.loop.closing ∧
        t.loop.lockout = s.loop.lockout ∧ t.loop.lastError = s.loop.lastError ∧ t.loop.attempts = s.loop.attempts ∧
        (s.loop.refValid = false → s.loop.st ∈ [.unconfigured, .unreferenced, .referencing, .faultStop] →
          t.loop =
            { s.loop with
              c := t.loop.c, standstill := false, standTimer := some (s.time.now + s.cfg.timing.standstill) })) ∧
  (∀ (s : State) (d : Dims) (c : Nat), s.prog.st ≠ .held → s.cfg.geom.dims = some d → 1 ≤ d.n →
      s.loop.refValid = true → s.loop.st ≠ .unconfigured → s.loop.st ≠ .faultStop → c = (s.loop.c + 1) % (256 * d.n) →
      let late (p : Nat × Opening) : Prop :=
        s.loop.watches.get p.1 = .armed ∧
          c % 256 = ((p.2.sill + 256 - p.2.below % 256) % 256 + s.cfg.timing.pTol + 1) % 256
      (∀ p, p ∈ s.cfg.geom.watched → late p → (∀ q, q ∈ s.cfg.geom.watched → late q → p.1 ≤ q.1) →
        ∃ t, exec .countPulse s = .next t ∧ t.loop.st = .faultStop ∧
          t.loop.fault = some { cause := .sillMismatch, subject := some p.1 } ∧ t.loop.refValid = false ∧
          Queued .loopFault (some p.1) 7 s t) ∧
      (∀ (p : StopPlan) (r : Int), (∀ q, q ∈ s.cfg.geom.watched → ¬ late q) → s.loop.st = .stopping →
        s.loop.plan = some p → r = ((p.target : Int) - c) % (256 * d.n) →
        ∃ t, exec .countPulse s = .next t ∧
          if (if r > 256 * d.n - 256 then r - 256 * d.n else r) ≤ p.braking then
            t.loop.st = .braking ∧ t.loop.plan = some p ∧ t.loop.window = none ∧ contactorClosed t = false
          else t.loop.st = .stopping ∧ t.loop.plan = some p)) ∧
  CountPulsesMoveTheLoop

/-- R9, R10, R29, R30, R38: a pitch pulse in every loop state: the interval measurement, and with the reference VALID
the resynchronisation of the chain position; the faults it raises (PITCH_SLIP 4, DATUM_MISSING 6, OVERSPEED 1), and the
entry to RUNNING at the first good pulse of a start. (The model's: R10 before R30, and R9 before R30, log entries 18 and
74; the drift test after a resynchronisation, log entry 23; the window check before a command of the same pulse, log entry
81.) -/
def Obligations.PitchPulse : Prop :=
  (∀ s : State, s.prog.st ≠ .held →
      ∃ t, exec .pitchPulse s = .next t ∧ t.loop.lastPitch = some s.time.now ∧
        t.loop.interval =
          (match s.loop.lastPitch with
           | none => s.loop.interval
           | some p => some (min 65535 (s.time.now - p))) ∧
        t.loop.closing = min 2 (s.loop.closing + 1) ∧ t.loop.lockout = s.loop.lockout ∧
        t.loop.standTimer = s.loop.standTimer ∧ t.loop.standstill = s.loop.standstill ∧
        t.loop.c =
          (if s.loop.refValid = false then s.loop.c
           else if s.loop.c % 256 ≤ s.cfg.timing.pTol then s.loop.c - s.loop.c % 256
           else if 256 ≤ s.loop.c % 256 + s.cfg.timing.pTol then
             (s.loop.c - s.loop.c % 256 + 256) % (256 * s.cfg.geom.cars)
           else s.loop.c)) ∧
  (∀ s : State, s.prog.st ≠ .held →
      ∃ t, exec .pitchPulse s = .next t ∧
        let onTime : Prop := s.loop.c % 256 ≤ s.cfg.timing.pTol ∨ 256 ≤ s.loop.c % 256 + s.cfg.timing.pTol
        (s.loop.refValid = true → ¬ onTime → s.loop.st ≠ .unconfigured → s.loop.st ≠ .faultStop →
          t.loop.st = .faultStop ∧ t.loop.fault = some { cause := .pitchSlip, subject := none } ∧
            t.loop.refValid = false ∧ Queued .loopFault none 4 s t) ∧
        (s.loop.refValid = false → s.loop.st = .referencing → s.loop.refPitch + 1 = s.cfg.geom.cars + 2 →
          t.loop.st = .faultStop ∧ t.loop.fault = some { cause := .datumMissing, subject := none } ∧
            Queued .loopFault none 6 s t) ∧
        (∀ p, s.loop.refValid = true → onTime → s.loop.st = .running → 1 ≤ s.loop.closing → s.loop.lastPitch = some p →
          min 65535 (s.time.now - p) < s.cfg.timing.tMin →
          t.loop.st = .faultStop ∧ t.loop.fault = some { cause := .overspeed, subject := none } ∧
            Queued .loopFault none 1 s t) ∧
        (s.loop.refValid = true → onTime → s.loop.st = .starting → s.loop.closing = 0 →
          t.loop.st = .running ∧ t.loop.window = some (s.time.now + s.cfg.timing.tMax) ∧ t.loop.refValid = true ∧
            t.loop.fault = s.loop.fault))

/-- R8, R11, R37: a datum pulse finds the reference in REFERENCING, corrects the chain position near 0, raises
DATUM_SLIP (5) elsewhere, and does nothing without a reference in another state. (The model's: the drift
test after the correction, log entry 23.) -/
def Obligations.DatumPulseFindsOrChecksTheReference : Prop :=
  ∀ s : State, s.prog.st ≠ .held →
    ∃ t, exec .datumPulse s = .next t ∧
      (s.loop.refValid = false → s.loop.st ≠ .referencing → t.loop = s.loop) ∧
      (s.loop.refValid = false → s.loop.st = .referencing →
        t.loop.c = 0 ∧ t.loop.refValid = true ∧ Queued .referenced none 0 s t ∧
          (s.loop.refStop = .none → t.loop.st = .running) ∧
          (s.loop.refStop = .drain → s.loop.cars.all (· == .count 0) = false →
            t.loop.st = .draining ∧
              t.loop.drain = some
                { fire := s.loop.fireDrainPending, stopPending := true, drained := false, travel := 0, revs := 0 } ∧
              t.loop.drainTimer =
                if s.loop.fireDrainPending then s.loop.drainTimer
                else some (s.time.now + 1000 * s.cfg.timing.drainNormal)) ∧
          (s.loop.refStop = .stop → t.loop.st ≠ .referencing ∧ t.loop.drain = none)) ∧
      (s.loop.refValid = true → s.loop.c ≤ s.cfg.geom.length →
        if s.loop.c ≤ s.cfg.timing.pTol ∨ s.cfg.geom.length ≤ s.loop.c + s.cfg.timing.pTol then t.loop.c = 0
        else
          t.loop.c = s.loop.c ∧
            (s.loop.st ≠ .unconfigured → s.loop.st ≠ .faultStop →
              t.loop.st = .faultStop ∧ t.loop.fault = some { cause := .datumSlip, subject := none } ∧
                t.loop.refValid = false ∧ Queued .loopFault none 5 s t))

/-- R28, R45, R47: the standstill timer confirms standstill, and a BRAKING loop is judged: PARKED on a clear phase with
every sill clear, STOPPED_FOUL with a creep delay or exhausted otherwise. (The model's: the running time after a timed
event, log entry 6.) -/
def Obligations.StandstillJudgesTheStop : Prop :=
  ∀ (s : State) (due now : Nat), s.prog.st ≠ .held → s.loop.standTimer = some due → now = max s.time.now due →
    ∃ t, exec .standstillTimer s = .next t ∧ t.time.now = now ∧ t.loop.standstill = true ∧ t.loop.standTimer = none ∧
      t.loop.c = s.loop.c ∧ t.loop.refValid = s.loop.refValid ∧ t.loop.cars = s.loop.cars ∧
      (s.loop.st ≠ .braking → t.loop = { s.loop with standstill := true, standTimer := none }) ∧
      (∀ (target : Option Nat) (err : Option Int) (n : Nat), s.loop.st = .braking → 0 < s.cfg.geom.length →
        target = (s.loop.plan.map StopPlan.target).or (s.loop.creepPlan.map CreepPlan.target) →
        err = target.map (fun x =>
          let e : Int := ((s.loop.c : Int) - x) % s.cfg.geom.length
          max (-128) (min 127 (if 2 * e > s.cfg.geom.length then e - s.cfg.geom.length else e))) →
        n = s.loop.attempts + (if s.loop.creepPlan.isSome then 1 else 0) →
        t.loop.lastError = err ∧ t.loop.attempts = n ∧ t.loop.plan = none ∧ t.loop.creepPlan = none ∧
          if s.cfg.geom.forbidden (s.loop.c % 256) = false ∧ sillActive s = false then
            t.loop.st = .parked ∧ Queued .loopParked none (stopErrorDetail err) s t
          else
            t.loop.st = .stoppedFoul ∧ Queued .loopFoul (foulOpening s) (stopErrorDetail err) s t ∧
              if n < s.cfg.timing.creepLimit then
                t.loop.exhausted = false ∧ t.loop.creepDelay = some (now + 1000 * s.cfg.timing.creepDelay)
              else t.loop.exhausted = true ∧ t.loop.creepDelay = none)

/-- R31, R42, R50: the window timer raises START_TIMEOUT (3) or STALL (2) under a closed contactor; the drain timer
queues DRAIN_TIMEOUT, leaves a normal drain to go on, ends a fire drain, and makes the referencing stop request STOP.
(The model's: the running time after a timed event, log entry 6.) -/
def Obligations.WindowAndDrainTimersExpire : Prop :=
  ∀ (s : State) (due : Nat), s.prog.st ≠ .held →
    (s.loop.window = some due →
      ∃ t, exec .windowTimer s = .next t ∧ t.time.now = max s.time.now due ∧ t.loop.window = none ∧
        if contactorClosed s then
          t.loop.st = .faultStop ∧ t.loop.refValid = false ∧ contactorClosed t = false ∧
            t.loop.fault = some
              { cause := if s.loop.st ≠ .creeping ∧ s.loop.closing = 0 then .startTimeout else .stall, subject := none } ∧
            Queued .loopFault none (if s.loop.st ≠ .creeping ∧ s.loop.closing = 0 then 3 else 2) s t
        else t.loop = { s.loop with window := none }) ∧
    (s.loop.drainTimer = some due →
      ∃ t, exec .drainTimer s = .next t ∧ t.time.now = max s.time.now due ∧ t.loop.drainTimer = none ∧
        t.loop.cars = s.loop.cars ∧
        (∀ d, s.loop.st = .draining → s.loop.drain = some d →
          Queued .drainTimeout none (s.loop.cars.filter (· != .count 0)).length s t ∧
            if d.fire then t.loop.st ≠ .draining ∧ t.loop.drain = none
            else t.loop = { s.loop with drainTimer := none }) ∧
        (s.loop.st = .referencing →
          Queued .drainTimeout none s.cfg.geom.cars s t ∧
            t.loop = { s.loop with drainTimer := none, refStop := .stop }))

/-! ### Fire zones -/

/-- R55, R56: DEFINE ZONE: its tests in their order, and the live record it leaves. (The model's: the bytes of a
payload, log entry 9.) -/
def Obligations.DefineZoneTestsAndRedefines : Prop :=
  ∀ (tag : Byte) (z : Nat) (v : ZoneReq) (d : ZoneDef) (s : State), s.link.closed = false →
    d =
      { enable := decide (v.enable = 1), floor := v.floor, t1 := v.t1, t2 := v.t2, t3 := v.t3, h := min 50 v.h
        k := max 1 (min 10 v.k) } →
    ∃ t, exec (.defineZone tag z v) s = .next t ∧
      if z < 8 ∧ v.enable ≤ 1 ∧ v.floor ≤ 7 ∧ v.t3 ≤ 1023 ∧ v.t1 < v.t2 ∧ v.t2 < v.t3 ∧ v.t1 + 2 * d.h < v.t2 ∧
          v.t2 + 2 * d.h < v.t3 then
        if v.enable = 0 ∧ (zoneAt s z).st = .alarm then Replied 0x20#8 tag .wrongState [] t ∧ OnlyChanges [.line] s t
        else
          t.cfg = { s.cfg with zones := s.cfg.zones.put z d } ∧ MarkedChanged s t ∧
            t.fire =
              { s.fire with
                zones := s.fire.zones.put z
                  { run := none, latest := (zoneAt s z).latest
                    st :=
                      if v.enable = 0 then .disabled
                      else if (zoneAt s z).st = .disabled then .normal else (zoneAt s z).st } } ∧
            Replied 0x20#8 tag (if d.h = v.h ∧ d.k = v.k then .done else .clamped) (zoneBytes d) t ∧
            OnlyChanges [.line, .settings, .marks, .fire] s t
      else Replied 0x20#8 tag .badValue [] t ∧ OnlyChanges [.line] s t

/-- R54, R57 to R62: a conversion of a zone's channel: the reading is kept, and an enabled zone's confirmation run
grows, empties or starts again by the raw band, and changes the zone's state when it reaches k. (The model's: the
running time after a timed event, log entry 6.) -/
def Obligations.ConversionClassifiesTheSample : Prop :=
  ∀ (v : BitVec 10) (z : Nat) (s : State), s.fire.channel = z → z < 8 →
    ∃ t, exec (.conversionComplete v) s = .next t ∧ t.fire.channel = z + 1 ∧
      t.time.now = max s.time.now s.time.convDue ∧ t.time.convDue = s.time.convDue + 2 ∧
      (zoneAt t z).latest = some v.toNat ∧ (∀ y < 8, y ≠ z → zoneAt t y = zoneAt s y) ∧ t.cfg = s.cfg ∧
      ((zoneAt s z).st = .disabled →
        (zoneAt t z).st = .disabled ∧ (zoneAt t z).run = (zoneAt s z).run ∧ t.fire.latch = s.fire.latch ∧
          t.fire.alarmed = s.fire.alarmed) ∧
      (∀ (d : ZoneDef) (home raw : Band) (near : Bool) (n : Nat), d = zoneDef s z →
        (home, near) ∈
          (match (zoneAt s z).st with
           | .disabled => []
           | .normal => [(Band.normal, decide (d.t1 ≤ v.toNat + d.h ∧ v.toNat < d.t2 + d.h))]
           | .alarm => [(Band.alarm, decide (d.t2 ≤ v.toNat + d.h ∧ v.toNat < d.t3 + d.h))]
           | .openFault => [(Band.open, decide (d.t3 ≤ v.toNat + d.h))]
           | .shortFault => [(Band.short, decide (v.toNat < d.t1 + d.h))]) →
        raw =
          (if near then home
           else if v.toNat < d.t1 then .short
           else if v.toNat < d.t2 then .normal
           else if v.toNat < d.t3 then .alarm
           else .open) →
        n = (((zoneAt s z).run.filter (fun r => r.1 == raw)).map Prod.snd).getD 0 + 1 →
        if raw = home then
          (zoneAt t z).st = (zoneAt s z).st ∧ (zoneAt t z).run = none ∧ t.fire.latch = s.fire.latch ∧
            t.fire.alarmed = s.fire.alarmed
        else if n < d.k then
          (zoneAt t z).st = (zoneAt s z).st ∧ (zoneAt t z).run = some (raw, n) ∧ t.fire.latch = s.fire.latch ∧
            t.fire.alarmed = s.fire.alarmed
        else
          (zoneAt t z).run = none ∧
            match raw with
            | .normal =>
              (zoneAt t z).st = .normal ∧ Queued .zoneNormal (some z) (zoneAt s z).st.code s t ∧
                t.fire.latch = s.fire.latch ∧ t.fire.alarmed = s.fire.alarmed
            | .alarm =>
              (zoneAt t z).st = .alarm ∧ Queued .zoneAlarm (some z) d.floor s t ∧ t.fire.latch = true ∧
                ∀ y < 8, t.fire.alarmed.getLsbD y = (decide (y = z) || s.fire.alarmed.getLsbD y)
            | .open =>
              (zoneAt t z).st = .openFault ∧ Queued .zoneFault (some z) 0 s t ∧ t.fire.latch = s.fire.latch ∧
                t.fire.alarmed = s.fire.alarmed
            | .short =>
              (zoneAt t z).st = .shortFault ∧ Queued .zoneFault (some z) 1 s t ∧ t.fire.latch = s.fire.latch ∧
                t.fire.alarmed = s.fire.alarmed)

/-- R39, R41, R52, R62, R63, R89 to R91, R104, R133, R135, R166, R185: the sample that sets the latch queues ZONE_ALARM and
then FIRE_LATCHED, and at the same sample the loop reacts as its state says (R52), every matching shutter is offered a FIRE
demand and no other demand is left, a sweep check gives its bridge up to a FIRE demand, every bell line rings with its queue
empty, the announcement table is emptied and a defined evacuation plays on channel A, and a closing programme that runs or
holds is ABORTED, with CLOSING_ABORTED (FIRE) and a held step's result ABORTED. A further zone alarm while the latch is set
does what a part of Safety.lean says. (The model's: the running time after a timed event, log entry 6; grants at the end of
the event, log entry 20; the end of a programme past midnight, log entry 25.) -/
def Obligations.LatchReachesEveryReader : Prop :=
  (∀ (v : BitVec 10) (z now : Nat) (s : State), ConfirmsAlarm v z s → s.fire.latch = false →
    now = max s.time.now s.time.convDue →
    ∃ t, exec (.conversionComplete v) s = .next t ∧ t.fire.latch = true ∧
      (s.link.events.length < 47 →
        (s.link.events ++
          [{ kind := .zoneAlarm, subject := some z, detail := (zoneDef s z).floor % 65536, time := clockTime s },
           { kind := .fireLatched, subject := some z, detail := (zoneDef s z).floor % 65536, time := clockTime s }])
          <+: t.link.events) ∧
      LoopTakesTheLatch now s t ∧
      (∀ i < 24, isDefined s i = true → ∀ d, demandOf t i = some d → d.cls = .fire) ∧
      FireDemandsAreOffered z now s t ∧ FireTakesTheSweepBridge z now s t ∧
      (∀ l < 8, RingsForFire l now s t ∧ (lineAt t l).queue = [] ∧ (lineAt t l).pending = none) ∧
      t.bells.lamps = Tab.fill 48 { steady := .off, flash := none } ∧ t.ann.table = [] ∧ t.ann.wanted = true ∧
      (ChannelsOk s → s.ann.chanA.handle ≠ some 0 → s.ann.chanB.handle ≠ some 0 →
        (∀ k < 8, ∀ ch, s.ann.routing.get k = some ch → (channelAt s ch).st ≠ .idle) → EvacuationStarts s t) ∧
      programmeRuns t = false ∧ (programmeRuns s = false → t.prog = s.prog) ∧
      (programmeRuns s = true → Records .closingAborted s.prog.next 1 s t ∧
        if s.prog.pastMidnight then Arms s.clock.isSet s.clock.seconds s.clock.weekday { s with fire := t.fire } t
        else
          t.prog = { s.prog with st := .aborted, hold := none, watch := none, results := t.prog.results } ∧
            ∀ k < 16, t.prog.results.get k =
              if s.prog.st = .held ∧ s.prog.next = some k then .aborted else s.prog.results.get k)) ∧
  FurtherAlarmsReachTheReaders

/-- R53, R64, R93, R94, R135, R163, R166, R185: FIRE RESET is refused while a zone is in ALARM; otherwise it clears a latch
that is set, with the alarmed set, and leaves the loop, every zone and the programme as they stand. Every FIRE demand is
cancelled with DEMAND_CANCELLED, a drive under one stops, and faults, obstruction counts and the motion states of shutters
that are not driven stay; every line is IDLE; and a playing evacuation is stopped, with ANNOUNCE_DONE (0, CANCELLED). That
the programme is not HELD under the latch is a premise (R185), which `EveryStepKeepsTheFireRecords` keeps. (The model's: the
bytes of a payload, log entry 9; ANNOUNCE_DONE before what the start rule queues, log entry 78.) -/
def Obligations.FireResetClearsTheLatch : Prop :=
  ∀ (tag : Byte) (s : State), s.link.closed = false →
    ∃ t, exec (.fireReset tag) s = .next t ∧
      (∀ z < 8, (zoneAt s z).st = .alarm → (∀ y < z, (zoneAt s y).st ≠ .alarm) →
        Replied 0x22#8 tag .wrongState (bytesLE 1 z) t ∧ OnlyChanges [.line] s t) ∧
      ((∀ z < 8, (zoneAt s z).st ≠ .alarm) → s.fire.latch = false →
        Replied 0x22#8 tag .done [] t ∧ OnlyChanges [.line] s t) ∧
      ((∀ z < 8, (zoneAt s z).st ≠ .alarm) → s.fire.latch = true → s.prog.st ≠ .held →
        Replied 0x22#8 tag .done [] t ∧ t.fire = { s.fire with latch := false, alarmed := 0#8 } ∧
          Queued .fireReset none ((List.range 8).filter (fun y => s.fire.alarmed.getLsbD y)).length s t ∧
          t.loop = s.loop ∧ t.prog = s.prog ∧ EvacuationStops s t ∧
          (∀ l < 8, (lineAt t l).st = .idle ∧ (lineAt t l).queue = (lineAt s l).queue ∧
            (lineAt t l).striker = (lineAt s l).striker) ∧
          ∀ i < 24, (shutterAt t i).fault = (shutterAt s i).fault ∧
            (shutterAt t i).obstructions = (shutterAt s i).obstructions ∧
            ((shutterAt s i).motion.driven = false →
              (∀ b, bridgeOf s i = some b → ∀ r sr op g, (bridgeAt s b).st ≠ .driving r sr op g) →
              (shutterAt t i).motion = (shutterAt s i).motion) ∧
            ∀ d, isDefined s i = true → demandOf s i = some d → d.cls = .fire →
              demandOf t i = none ∧ Records .demandCancelled (some i) 0 s t ∧
                ∀ b r sr op g, d.status = .moving → bridgeOf s i = some b → (bridgeAt s b).st = .driving r sr op g →
                  (∀ j, j ≠ i → (bridgeAt s b).shutter ≠ some j) →
                  (shutterAt t i).motion = limitsMotion s i ∧ (shutterAt t i).travel = none ∧
                    (bridgeAt t b).st = .dwell (some (s.time.now + s.cfg.bridges.dwell)) false true)

/-! ### Shutters and bridges -/

/-- R69, R70: DEFINE SHUTTER: its tests in their order; a new entry starts with no demand and the motion state its
limits give, and an entry with no demand keeps its live record. (The model's: the bytes of a payload, log entry 9.) -/
def Obligations.DefineShutterTestsAndWrites : Prop :=
  ∀ (tag : Byte) (i : Nat) (v : ShutterReq) (d : ShutterDef) (s : State), s.link.closed = false → s.prog.st ≠ .held →
    d =
      { floor := v.floor, kind := if v.kind = 0 then .opening else if v.kind = 1 then .divider else .stair
        opening := v.opening, zones := v.zones, groups := v.groups, priority := v.priority
        travel := max 5 (min 120 v.travel), retryDelay := max 5 (min 60 v.retryDelay), retryLimit := min 5 v.retryLimit
        firePause := max 2 (min 20 v.firePause), pauseLimit := max 1 (min 10 v.pauseLimit) } →
    ∃ t, exec (.defineShutter tag i v) s = .next t ∧
      if i < 24 ∧ v.floor ≤ 7 ∧ v.kind ≤ 2 ∧ v.priority ≤ 3 ∧ v.opening.isSome = decide (v.kind = 0) ∧
          v.opening.all (fun o => decide (o ≤ 15)) = true then
        if (bridgeOf s i).isSome = true ∨
            (contactorClosed s = true ∧ v.kind = 0 ∧
              (if isDefined s i then (shutterAt s i).motion else limitsMotion s i) ≠ .open) then
          Replied 0x28#8 tag .wrongState [] t ∧ OnlyChanges [.line] s t
        else
          t.cfg = { s.cfg with shutters := s.cfg.shutters.put i (some d) } ∧ MarkedChanged s t ∧
            Replied 0x28#8 tag
              (if d.travel = v.travel ∧ d.retryDelay = v.retryDelay ∧ d.retryLimit = v.retryLimit ∧
                  d.firePause = v.firePause ∧ d.pauseLimit = v.pauseLimit then .done else .clamped) (shutterBytes d) t ∧
            (isDefined s i = false → bothLimits s i = false →
              shutterAt t i =
                { motion := limitsMotion s i, demand := none, obstructions := 0, fault := none, lastCheck := none
                  travel := none, retry := none, pause := none }) ∧
            (isDefined s i = true → (shutterAt s i).demand = none → s.fire.latch = false →
              shutterAt t i = shutterAt s i)
      else Replied 0x28#8 tag .badValue [] t ∧ OnlyChanges [.line] s t

/-- R76: SHUTTER CLOSE and SHUTTER OPEN of one shutter, a group, a floor or all: a shutter with a fault or with a demand
of a higher class refuses, one at the target is satisfied, and every other has a HOST demand afterwards. That no HOST
demand is PAUSED is a premise: only a FIRE demand pauses (R87). (The model's: the bytes of a payload, log
entries 9 and 87; an unknown address kind and a member byte that does not fit, log entry 55.) -/
def Obligations.ShutterRequestsPlaceHostDemands : Prop :=
  ∀ (tag : Byte) (s : State) (dir : DemandDir) (target : Motion) (k : Byte) (req : Nat → Member → Instr),
    s.link.closed = false → s.prog.st ≠ .held →
    (∀ i d, demandOf s i = some d → d.status = .paused → d.cls = .fire) →
    (dir, target, k, req) ∈
      [(.close, .closed, 0x29#8, Instr.shutterClose tag), (.open, .open, 0x2A#8, Instr.shutterOpen tag)] →
    let refuses (i : Nat) : Bool :=
      (shutterAt s i).fault.isSome || (demandOf s i).any (fun d => decide (d.cls ≠ .host))
    let there (i : Nat) : Bool := decide ((shutterAt s i).motion = target)
    let demanded (t : State) (i : Nat) : Prop := ∃ d, demandOf t i = some d ∧ d.dir = dir ∧ d.cls = .host
    let several (ids : List Nat) (t : State) : Prop :=
      Replied k tag .done
          (setBytes 3 (ids.filter (fun i => !refuses i && !there i)) ++
            setBytes 3 (ids.filter (fun i => !refuses i && there i)) ++ setBytes 3 (ids.filter refuses)) t ∧
        ∀ i ∈ ids, refuses i = false → there i = false → demanded t i
    ∀ kind m, ∃ t, exec (req kind m) s = .next t ∧
      if s.fire.latch then Replied k tag .fireMode [] t ∧ OnlyChanges [.line] s t
      else
        match kind, m with
        | 0, .one i =>
          if i < 24 ∧ isDefined s i = true then
            if refuses i = true then
              Replied k tag .wrongState
                  (match (shutterAt s i).fault with
                   | some f => bytesLE 1 f.code
                   | none => ((demandOf s i).map (fun d => bytesLE 1 d.cls.code)).getD []) t ∧
                OnlyChanges [.line] s t
            else Replied k tag .done [] t ∧ (there i = false → demanded t i)
          else Replied k tag .badValue [] t ∧ OnlyChanges [.line] s t
        | 1, .one g =>
          if g < 8 then
            several ((List.range 24).filter (fun i => (s.cfg.shutters.get i).any (fun d => d.groups.getLsbD g))) t
          else Replied k tag .badValue [] t ∧ OnlyChanges [.line] s t
        | 2, .one f =>
          if f < 8 then
            several ((List.range 24).filter (fun i => (s.cfg.shutters.get i).any (fun d => decide (d.floor = f)))) t
          else Replied k tag .badValue [] t ∧ OnlyChanges [.line] s t
        | 3, .all => several ((List.range 24).filter (isDefined s)) t
        | _, _ => Replied k tag .badValue [] t ∧ OnlyChanges [.line] s t

/-- R74, R77, R101, R103: a close demand placed on an OPENING shutter that stands idle is held by the loop, with
SHUTTER_HELD, when the interlock fails, its condition being 1 for an unsettled loop, 2 for an active sill sensor and 3 for an
occupied opening. When the interlock passes, it waits for a bridge, or its pre-travel check begins at once on the
lowest-numbered FREE bridge. -/
def Obligations.OpeningInterlockHoldsTheDemand : Prop :=
  ∀ (tag : Byte) (i o : Nat) (d : ShutterDef) (s : State), s.link.closed = false → s.prog.st ≠ .held →
    s.fire.latch = false → i < 24 → s.cfg.shutters.get i = some d → d.kind = .opening → d.opening = some o →
    (shutterAt s i).fault = none → (shutterAt s i).demand = none → (shutterAt s i).motion ≠ .closed →
    bridgeOf s i = none →
    ∃ t x, exec (.shutterClose tag 0 (.one i)) s = .next t ∧ demandOf t i = some x ∧ x.dir = .close ∧ x.cls = .host ∧
      x.single = false ∧ x.placedAt = s.time.now ∧ (shutterAt t i).obstructions = 0 ∧
      (shutterAt t i).motion = (shutterAt s i).motion ∧
      if settled s = false then x.status = .heldByLoop ∧ Queued .shutterHeld (some i) 1 s t
      else if active s (sillPoint o) = true then x.status = .heldByLoop ∧ Queued .shutterHeld (some i) 2 s t
      else if (occupantOf s o).isSome = true then x.status = .heldByLoop ∧ Queued .shutterHeld (some i) 3 s t
      else
        (x.status = .waitingBridge ∨ x.status = .checking) ∧ t.link.events = s.link.events ∧
          OfferedABridge .preTravel i s.time.now s t

/-- R101, R103, R109: SHUTTER TEST: its tests in their order; an accepted test is a HOST demand that waits for a bridge,
or whose check begins on the lowest-numbered FREE bridge, and it takes a sweep check of its shutter over. (The model's: the bytes of a payload, log entry 9.) -/
def Obligations.ShutterTestPlacesATestDemand : Prop :=
  ∀ (tag : Byte) (i : Nat) (s : State), s.link.closed = false → s.prog.st ≠ .held →
    ∃ t, exec (.shutterTest tag i) s = .next t ∧
      if s.fire.latch = true then Replied 0x2B#8 tag .fireMode [] t ∧ OnlyChanges [.line] s t
      else if ¬(i < 24 ∧ isDefined s i = true) then Replied 0x2B#8 tag .badValue [] t ∧ OnlyChanges [.line] s t
      else
        match (shutterAt s i).fault with
        | some f => Replied 0x2B#8 tag .wrongState (bytesLE 1 f.code) t ∧ OnlyChanges [.line] s t
        | none =>
          if (shutterAt s i).motion = .lowering ∨ (shutterAt s i).motion = .raising ∨
              (shutterAt s i).demand.isSome = true ∨ ((bridgeOf s i).isSome = true ∧ sweepOf s i = none) then
            Replied 0x2B#8 tag .wrongState [] t ∧ OnlyChanges [.line] s t
          else
            Replied 0x2B#8 tag .accepted [] t ∧
              ∃ d, demandOf t i = some d ∧ d.dir = .test ∧ d.cls = .host ∧ d.placedAt = s.time.now ∧
                (d.status = .waitingBridge ∨ d.status = .checking) ∧
                (sweepOf s i = none → OfferedABridge .test i s.time.now s t) ∧
                ∀ b, sweepOf s i = some b →
                  d.status = .checking ∧
                    ∃ lv due, (bridgeAt s b).st = .checking .sweep lv due ∧ (bridgeAt t b).st = .checking .test lv due

/-- R79, R105, R106, R112, R113: the settings REST (both terminals low), LIFT_A (A high) and LIFT_B (B high) in that order; a
setting that ends is read; the third classifies the motor, keeps the result with its time, and records and reports every
result but NORMAL. A test then ends; a good pre-travel check starts the drive; a short ends the demand. Suspect results
of two shutters withdraw the bridge: at once after a check-only, and otherwise at the end of its connection. (The model's:
the running time after a timed event, log entry 6; the order of the records of one event, log entry 80; the cleared
withdrawal, log entry 51.) -/
def Obligations.CheckSettingsClassifyTheMotor : Prop :=
  ∀ (b : Fin 4) (a c : Bool) (p : Purpose) (lv : List (Bool × Bool)) (due now i : Nat) (r : CheckResult) (s : State),
    s.prog.st ≠ .held → (bridgeAt s b).st = .checking p lv due → (bridgeAt s b).shutter = some i → i < 24 →
    now = max s.time.now due →
    r =
      (if lv = [(false, false), (true, true)] ∧ a = true ∧ c = true then .normal
       else if lv = [(false, false), (true, false)] ∧ a = false ∧ c = true then .openWinding
       else if lv = [(true, true), (true, true)] ∧ a = true ∧ c = true then .shortSupply
       else if lv = [(false, false), (false, false)] ∧ a = false ∧ c = false then .shortGround
       else .unclassified) →
    bridgeOutput s b = checkOutput lv.length ∧
    ∃ t, exec (.checkSettingEnd b a c) s = .next t ∧ t.time.now = now ∧
      (lv.length < 2 → p ≠ .sweep →
        bridgeAt t b = { bridgeAt s b with st := .checking p (lv ++ [(a, c)]) (now + 30) } ∧
          bridgeOutput t b = checkOutput (lv.length + 1)) ∧
      (lv.length = 2 →
        (shutterAt t i).lastCheck = some (r, clockTime s) ∧
          (r ≠ .normal → Queued .checkResult (some i) (r.code + 256 * b + 1024 * p.code) s t) ∧
          (r ≠ .normal → (p = .preTravel → ∀ d, (shutterAt s i).demand = some d → d.cls ≠ .fire) →
            (shutterAt t i).fault = some r) ∧
          (p = .test → (shutterAt t i).demand = none) ∧
          (p ≠ .preTravel → (∀ d, (shutterAt s i).demand = some d → d.status ≠ .waitingBridge) →
            BridgeGoesOn b now
              { bridgeAt s b with
                suspect := suspectAfter (bridgeAt s b).suspect i r, withdrawn := withdrawnAfter (bridgeAt s b) i r } s t) ∧
          (p = .preTravel →
            (bridgeAt t b).suspect = suspectAfter (bridgeAt s b).suspect i r ∧
              (bridgeAt t b).withdrawn = withdrawnAfter (bridgeAt s b) i r ∧ (bridgeAt t b).st ≠ .outOfService ∧
              (r = .shortSupply ∨ r = .shortGround →
                (bridgeAt t b).st = .dwell (some (now + s.cfg.bridges.dwell)) false false)) ∧
          (p = .preTravel → r = .shortSupply ∨ r = .shortGround → (shutterAt t i).demand = none) ∧
          (∀ (d : Demand) (df : ShutterDef), p = .preTravel → r = .normal → (shutterAt s i).demand = some d →
            bridgeOf s i = some b.val → s.cfg.shutters.get i = some df → d.dir = .open →
            (shutterAt s i).motion ≠ .open →
            (shutterAt t i).motion = .raising ∧ (shutterAt t i).travel = some (now + 1000 * df.travel) ∧
              (shutterAt t i).demand = some { d with status := .moving } ∧
              (bridgeAt t b).st = .driving true 0 0 (some (now + s.cfg.bridges.grace)) ∧
              bridgeOutput t b = .drive true))

/-- R80, R82, R86, R87, R103: the travel timer of a drive records TRAVEL_TIMEOUT (6) and ends the demand; the retry timer
offers the demand a bridge again; the pause timer drives downward again. A bridge that dwells has both terminals on the
low rail (R108). (The model's: the running time after a timed event, log entry 6; a drive's polarity is given by its
direction alone, log entry 34.) -/
def Obligations.ShutterTimersExpire : Prop :=
  ∀ (i : Fin 24) (b due now : Nat) (d : Demand) (df : ShutterDef) (s : State), s.prog.st ≠ .held →
    s.cfg.shutters.get i = some df → (shutterAt s i).demand = some d → now = max s.time.now due →
    ((shutterAt s i).travel = some due → bridgeOf s i = some b →
      (∃ raise sr op g, (bridgeAt s b).st = .driving raise sr op g) → (shutterAt s i).motion.driven = true →
      d.status = .moving →
      ∃ t, exec (.travelTimer i) s = .next t ∧ t.time.now = now ∧ (shutterAt t i).fault = some .travelTimeout ∧
        (shutterAt t i).demand = none ∧ (shutterAt t i).travel = none ∧ (shutterAt t i).motion = limitsMotion s i ∧
        (bridgeAt t b).st = .dwell (some (now + s.cfg.bridges.dwell)) false true ∧ bridgeOutput t b = .shorted ∧
        Queued .shutterFault (some i.val) 6 s t) ∧
    ((shutterAt s i).retry = some due → d.status = .retryWait → d.dir = .close →
      ∃ t x, exec (.retryTimer i) s = .next t ∧ t.time.now = now ∧ (shutterAt t i).retry = none ∧
        (shutterAt t i).demand = some x ∧ x.cls = d.cls ∧ x.dir = .close ∧
        match interlockFails s i with
        | some k => x.status = .heldByLoop ∧ Queued .shutterHeld (some i.val) k s t
        | none =>
          (x.status = .waitingBridge ∨ x.status = .checking) ∧
            (d.cls ≠ .fire → (∀ g < 4, (bridgeAt s g).shutter ≠ some i.val) → OfferedABridge .preTravel i now s t)) ∧
    ((shutterAt s i).pause = some due → d.status = .paused → d.dir = .close → (shutterAt s i).motion ≠ .closed →
      bridgeOf s i = some b → active s (edgePoint i) = false → df.kind ≠ .opening →
      ∃ t, exec (.pauseTimer i) s = .next t ∧ t.time.now = now ∧ (shutterAt t i).pause = none ∧
        (shutterAt t i).demand = some { d with status := .moving } ∧ (shutterAt t i).motion = .lowering ∧
        (shutterAt t i).travel = some (now + 1000 * df.travel) ∧
        (bridgeAt t b).st = .driving false 0 0 (some (now + s.cfg.bridges.grace)) ∧ bridgeOutput t b = .drive false)

/-- R78, R79, R83, R85, R86, R101 to R103, R107, R108, R110, R111, R113: the grace timer ends the open grace; a bridge
that dwells has both terminals on the low rail. A dwell that ends with no demand frees the bridge, whose terminals then
float; a withdrawn bridge is OUT_OF_SERVICE, and one that the grant queue waits for begins the check of its head. A dwell
under a hold waits for it, and one under a demand does what a part of Safety.lean says; the sweep timer makes a sweep due and
starts anew, and the due sweep begins at the lowest free bridge on the first eligible shutter from the cursor on. (The
model's: which of two demands was placed earlier, log entry 5; the running time after a timed event, log entry 6; grants and
a due sweep at the end of the event, log entry 20; the end of a RECOVERING demand at the top, log entry 49; the cleared
withdrawal, log entry 51; the order of the records of one event, log entry 80.) -/
def Obligations.BridgeTimersExpire : Prop :=
  (∀ (b : Fin 4) (due now : Nat) (s : State), s.prog.st ≠ .held → now = max s.time.now due →
    (∀ raise sr op, (bridgeAt s b).st = .driving raise sr op (some due) →
      ∃ t, exec (.openGraceTimer b) s = .next t ∧ t.time.now = now ∧ OnlyChanges [.clockwork, .bridges] s t ∧
        t.bridges =
          { s.bridges with
            units := s.bridges.units.put b { bridgeAt s b with st := .driving raise sr op none } }) ∧
    (∀ i travelled, (bridgeAt s b).st = .dwell (some due) false travelled → (bridgeAt s b).shutter = some i →
      (shutterAt s i).demand = none →
      ∃ t, exec (.dwellTimer b) s = .next t ∧ t.time.now = now ∧ bridgeOutput s b = .shorted ∧
        BridgeGoesOn b now (bridgeAt s b) s t ∧
        ((bridgeAt s b).withdrawn ≠ none → bridgeOutput t b = .floating) ∧
        ((bridgeAt s b).withdrawn = none → grantQueue s = [] → s.bridges.sweepDue = false →
          OnlyChanges [.clockwork, .bridges] s t ∧ bridgeOutput t b = .floating ∧
            t.bridges =
              { s.bridges with units := s.bridges.units.put b { bridgeAt s b with st := .free, shutter := none } })) ∧
    (∀ travelled, (bridgeAt s b).st = .dwell (some due) true travelled →
      ∃ t, exec (.dwellTimer b) s = .next t ∧ t.time.now = now ∧
        bridgeAt t b = { bridgeAt s b with st := .dwell none true travelled } ∧ bridgeOutput t b = .shorted) ∧
    (s.bridges.sweepTimer = some due → s.cfg.bridges.sweep ≠ 0 →
      ∃ t, exec .sweepTimer s = .next t ∧ t.time.now = now ∧
        t.bridges.sweepTimer = some (now + 60000 * s.cfg.bridges.sweep) ∧
        (s.field.lost = true → t.bridges.sweepDue = true ∧ t.bridges.units = s.bridges.units) ∧
        (∀ f i, s.field.lost = false → s.fire.latch = false → grantQueue s = [] → sweepBridge s = none →
          (bridgeAt s f).st = .free → f < 4 → (∀ g < f, (bridgeAt s g).st ≠ .free) →
          ((List.range 24).map (fun k => (s.bridges.cursor + k) % 24)).find?
              (fun j => isDefined s j &&
                decide ((shutterAt s j).motion = .open ∨ (shutterAt s j).motion = .closed) &&
                (shutterAt s j).demand.isNone && (shutterAt s j).fault.isNone && (bridgeOf s j).isNone) = some i →
          t.bridges.sweepDue = false ∧ t.bridges.cursor = (i + 1) % 24 ∧
            bridgeAt t f = { bridgeAt s f with st := .checking .sweep [] (now + 30), shutter := some i }))) ∧
  DwellsEndUnderTheirDemands

/-- R54, R84, R85, R87, R107, R108: a conversion of a bridge's channel: the reading is kept; while the bridge drives,
the first reading at or above the stall threshold starts a stall run. The second while RAISING ends the demand without a
fault; while LOWERING it is an obstruction (2), after which a HOST or CLOSING demand recovers and a FIRE demand pauses
with its bridge held, or ends past its pause limit. A reading below the open threshold counts for nothing within the
grace, and after it the third in a row is an open circuit (5). (The model's: the running time after a timed event, log
entry 6.) -/
def Obligations.CurrentReadingsSuperviseTheDrive : Prop :=
  ∀ (v : BitVec 10) (b now : Nat) (s : State), s.prog.st ≠ .held → s.fire.channel = 8 + b → b < 4 →
    now = max s.time.now s.time.convDue →
    ∃ t, exec (.conversionComplete v) s = .next t ∧ t.time.now = now ∧
      t.fire = { s.fire with channel := (9 + b) % 12 } ∧ (bridgeAt t b).latest = some v.toNat ∧
      ∀ raise sr op g i d, (bridgeAt s b).st = .driving raise sr op g → (bridgeAt s b).shutter = some i → i < 24 →
        bridgeOf s i = some b → (shutterAt s i).demand = some d → d.status = .moving →
        bridgeOutput s b = .drive raise ∧
        (s.cfg.bridges.stall ≤ v.toNat → sr = 0 → (bridgeAt t b).st = .driving raise 1 0 g) ∧
        (s.cfg.bridges.stall ≤ v.toNat → sr = 1 → raise = true →
          (shutterAt t i).demand = none ∧ (shutterAt t i).fault = (shutterAt s i).fault ∧
            (bridgeAt t b).st = .dwell (some (now + s.cfg.bridges.dwell)) false true ∧ bridgeOutput t b = .shorted ∧
            Queued .shutterObstructed (some i) (2 + 256 * (shutterAt s i).obstructions) s t) ∧
        (∀ (df : ShutterDef) (n : Nat), s.cfg.bridges.stall ≤ v.toNat → sr = 1 → raise = false →
          (shutterAt s i).motion = .lowering → d.dir = .close → s.cfg.shutters.get i = some df →
          n = (shutterAt s i).obstructions + 1 →
          (shutterAt t i).obstructions = n ∧ (shutterAt t i).motion = limitsMotion s i ∧
            (shutterAt t i).travel = none ∧ bridgeOutput t b = .shorted ∧
            Queued .shutterObstructed (some i) (2 + 256 * n) s t ∧
            let dwells (hold : Bool) : Prop :=
              (bridgeAt t b).st = .dwell (some (now + s.cfg.bridges.dwell)) hold true
            if d.cls ≠ .fire then
              demandOf t i = some { d with status := .recovering } ∧ (shutterAt t i).fault = (shutterAt s i).fault ∧
                dwells false
            else if n ≤ (if d.single then 0 else df.pauseLimit) then
              demandOf t i = some { d with status := .paused } ∧ (shutterAt t i).fault = (shutterAt s i).fault ∧
                (shutterAt t i).pause = some (now + 1000 * df.firePause) ∧ dwells true
            else demandOf t i = none ∧ (shutterAt t i).fault = some .obstructionRetries ∧ dwells false) ∧
        (v.toNat < s.cfg.bridges.stall → s.cfg.bridges.openThr ≤ v.toNat →
          (bridgeAt t b).st = .driving raise 0 0 g) ∧
        (v.toNat < s.cfg.bridges.stall → v.toNat < s.cfg.bridges.openThr → g.isSome = true ∨ op < 2 →
          bridgeAt t b =
              { bridgeAt s b with
                st := .driving raise 0 (if g.isSome then 0 else op + 1) g, latest := some v.toNat } ∧
            shutterAt t i = shutterAt s i ∧ t.link.events = s.link.events) ∧
        (v.toNat < s.cfg.bridges.stall → v.toNat < s.cfg.bridges.openThr → g = none → op = 2 →
          (shutterAt t i).demand = none ∧ (shutterAt t i).fault = some .openCircuit ∧
            Queued .shutterFault (some i) 5 s t)

/-! ### Bells -/

/-- R117, R118: DEFINE CODE and DEFINE STATION: the structural tests, the clamping of a code's tuning values with the
defaults 3 and 60 s, and the lamp of a station that is defined or undefined. (The model's: the bytes of a payload, log
entry 9.) -/
def Obligations.CodesAndStationsAreDefined : Prop :=
  ∀ (tag : Byte) (s : State), s.link.closed = false →
    (∀ code groups urgency repeats (d : CodeDef),
      d =
        { groups := groups.map (fun n => max 1 (min 6 n)), urgency
          maxRepeats := (repeats.map (fun (p : Nat × Nat) => min 9 p.1)).getD 3
          interval := (repeats.map (fun (p : Nat × Nat) => max 15 (min 600 p.2))).getD 60 } →
      ∃ t, exec (.defineCode tag code groups urgency repeats) s = .next t ∧
        if code ≤ 15 ∧ 1 ≤ groups.length ∧ groups.length ≤ 4 ∧ urgency ≤ 3 then
          t.cfg = { s.cfg with codes := s.cfg.codes.put code (some d) } ∧ MarkedChanged s t ∧
            Replied 0x30#8 tag
              (if d.groups = groups ∧ repeats.all (fun p => decide (d.maxRepeats = p.1 ∧ d.interval = p.2)) = true then .done
               else .clamped) (codeBytes d) t ∧
            OnlyChanges [.line, .settings, .marks] s t
        else Replied 0x30#8 tag .badValue [] t ∧ OnlyChanges [.line] s t) ∧
    (∀ n enable lc (x : Option StationDef),
      (enable = 0 ∧ x = none ∨
        ∃ l c, enable = 1 ∧ lc = some (l, c) ∧ l < 8 ∧ c < 16 ∧ (s.cfg.codes.get c).isSome = true ∧
          x = some { line := l, code := c }) →
      n < 48 →
      ∃ t, exec (.defineStation tag n enable lc) s = .next t ∧
        if (List.range 8).any (fun l => (lineAt s l).queue.any (fun c => decide (c.origin = .station n))) = true then
          Replied 0x31#8 tag .wrongState [] t ∧ OnlyChanges [.line] s t
        else
          t.cfg = { s.cfg with stations := s.cfg.stations.put n x } ∧ MarkedChanged s t ∧ Replied 0x31#8 tag .done [] t ∧
            t.bells = { s.bells with lamps := s.bells.lamps.put n { steady := .off, flash := none } } ∧
            OnlyChanges [.line, .settings, .marks, .bells] s t) ∧
    (∀ n enable lc,
      (48 ≤ n ∨ 2 ≤ enable ∨ ∃ l c, enable = 1 ∧ lc = some (l, c) ∧
        (8 ≤ l ∨ 16 ≤ c ∨ (s.cfg.codes.get c).isSome = false)) →
      ∃ t, exec (.defineStation tag n enable lc) s = .next t ∧ Replied 0x31#8 tag .badValue [] t ∧
        OnlyChanges [.line] s t)

/-- R121, R122, R124: BELL RING and its refusals. On one line a call already queued is raised, a new call joins a line that is
busy, an idle line selects the call that goes first among those that may sound, the new one with them, and a full queue
refuses; other lines are left alone. With ALL the ring is taken on each line, and the refusing lines are listed, with a
CALL_REFUSED for each in ascending order. (The model's: which of two calls was raised earlier, log entry 5; the bytes of a
payload, log entries 9 and 87; the phase while a first stroke waits, log entry 68.) -/
def Obligations.BellRingIsTakenOnItsLines : Prop :=
  ∀ (tag : Byte) (m : Member) (c : Nat) (s : State), s.link.closed = false →
    (s.fire.latch = true →
      ∃ t, exec (.bellRing tag m c) s = .next t ∧ Replied 0x33#8 tag .fireMode [] t ∧ OnlyChanges [.line] s t) ∧
    (s.fire.latch = false → (∃ l, m = .one l ∧ 8 ≤ l) ∨ 16 ≤ c ∨ s.cfg.codes.get c = none →
      ∃ t, exec (.bellRing tag m c) s = .next t ∧ Replied 0x33#8 tag .badValue [] t ∧ OnlyChanges [.line] s t) ∧
    (∀ l d, s.fire.latch = false → m = .one l → l < 8 → c < 16 → s.cfg.codes.get c = some d →
      ∃ t, exec (.bellRing tag m c) s = .next t ∧ RingTaken l c d s t ∧ (∀ k < 8, k ≠ l → lineAt t k = lineAt s k) ∧
        t.bells.lamps = s.bells.lamps ∧
        (∀ x, (lineAt s l).queue.find? (fun y => decide (y.origin = .link ∧ y.code = c)) = some x →
          Replied 0x33#8 tag .done [1#8, BitVec.ofNat 8 (min 3 (x.urgency + 1))] t ∧ OnlyChanges [.line, .bells] s t) ∧
        (ringAnswer c s l = 0 →
          Replied 0x33#8 tag .done [0#8, BitVec.ofNat 8 d.urgency] t ∧ OnlyChanges [.line, .bells] s t) ∧
        (ringAnswer c s l = 2 →
          Replied 0x33#8 tag .queueFull [] t ∧ OnlyChanges [.line, .events] s t ∧
            Queued .callRefused (some l) (255 + 256 * c) s t)) ∧
    (∀ d, s.fire.latch = false → m = .all → c < 16 → s.cfg.codes.get c = some d →
      let refusing : List Nat := (List.range 8).filter (fun l => decide (ringAnswer c s l = 2))
      let answers : List Byte := (List.range 8).map (fun l => BitVec.ofNat 8 (ringAnswer c s l))
      ∃ t, exec (.bellRing tag m c) s = .next t ∧ OnlyChanges [.line, .bells, .events] s t ∧
        t.bells.lamps = s.bells.lamps ∧ (∀ l < 8, RingTaken l c d s t) ∧
        (if refusing = [] then Replied 0x33#8 tag .done answers t
         else Replied 0x33#8 tag .queueFull (setBytes 1 refusing ++ answers) t) ∧
        (s.link.events.length + refusing.length ≤ 48 →
          t.link.events = s.link.events ++ refusing.map (fun l =>
            { kind := .callRefused, subject := some l, detail := (255 + 256 * c) % 65536, time := clockTime s })))

/-- R128 to R130: BELL ANSWER removes every call of its code from the named lines and answers how many there were; an
undefined code removes none. A line whose SOUNDING call is removed stops it and enters GAP, or takes its pending strokes. The
lamps of the stations whose calls are removed, and of the unanswered stations of those lines and that code, become OFF, and
no other lamp and no flash changes. (The model's: the bytes of a payload, log entry 9; the position during closing strokes,
log entry 69.) -/
def Obligations.BellAnswerRemovesTheCalls : Prop :=
  ∀ (tag : Byte) (m : Member) (c : Nat) (s : State), s.link.closed = false →
    ∃ t, exec (.bellAnswer tag m c) s = .next t ∧
      if 16 ≤ c ∨ (match m with | .one l => decide (8 ≤ l) | .all => false) = true then
        Replied 0x34#8 tag .badValue [] t ∧ OnlyChanges [.line] s t
      else if (s.cfg.codes.get c).isNone = true then Replied 0x34#8 tag .done [0#8] t ∧ OnlyChanges [.line] s t
      else
        let named (l : Nat) : Bool := decide (m = .all ∨ m = .one l)
        let turnsOff (n : Nat) : Prop :=
          ∃ l < 8, named l = true ∧
            ((∃ x ∈ (lineAt s l).queue, x.code = c ∧ x.origin = .station n) ∨
              s.cfg.stations.get n = some { line := l, code := c } ∧ (s.bells.lamps.get n).steady = .unanswered)
        Replied 0x34#8 tag .done
            (bytesLE 1 (((List.range 8).filter named).map (fun l =>
              ((lineAt s l).queue.filter (fun x => x.code == c)).length)).sum) t ∧
          OnlyChanges [.line, .bells] s t ∧
          (∀ l < 8, if named l then AnswerTaken l c s t else lineAt t l = lineAt s l) ∧
          ∀ n < 48, (turnsOff n → t.bells.lamps.get n = { s.bells.lamps.get n with steady := .off }) ∧
            (¬ turnsOff n → t.bells.lamps.get n = s.bells.lamps.get n)

/-- R134: BELL SILENCE. The reply's one byte lists the SILENCED lines as the model reads section 11.4 (log entries 9
and 87). -/
def Obligations.BellSilenceSilencesTheNamedLines : Prop :=
  ∀ (tag : Byte) (m : Member) (s : State), s.link.closed = false →
    ∃ t, exec (.bellSilence tag m) s = .next t ∧
      if s.fire.latch = false then Replied 0x35#8 tag .wrongState [] t ∧ OnlyChanges [.line] s t
      else if (match m with | .one l => decide (8 ≤ l) | .all => false) = true then
        Replied 0x35#8 tag .badValue [] t ∧ OnlyChanges [.line] s t
      else
        Replied 0x35#8 tag .done (setBytes 1 ((List.range 8).filter (fun l => decide ((lineAt t l).st = .silenced)))) t ∧
          OnlyChanges [.line, .bells] s t ∧ t.bells.lamps = s.bells.lamps ∧
          ∀ l < 8,
            if (m = .all ∨ m = .one l) ∧ (lineAt s l).st = .fireRinging then
              (lineAt t l).st = .silenced ∧ (lineAt t l).timer = none ∧ (lineAt t l).striker = (lineAt s l).striker ∧
                (lineAt t l).queue = (lineAt s l).queue
            else lineAt t l = lineAt s l

/-- R119, R123 to R126, R130 to R133: the on-time of a code stroke ends, and the stroke gap or the group gap follows, or
the sounding is complete and the line rests for the code gap; the line timer begins the next stroke of a code, of the
closing strokes or of the fire ringing, or ends the strokes and the code gap; the due time of a call makes it eligible
or lets it expire as unanswered; the flash timer ends a flash. Which call a line then selects, and where pending strokes
are taken, a part of Safety.lean says. (The model's: which of two calls was raised earlier, log entry 5; the running
time after a timed event, log entry 6; the phase while a first stroke waits, log entry 68; the position during closing
strokes, log entry 69.) -/
def Obligations.BellTimersExpire : Prop :=
  (∀ (l : Fin 8) (due now : Nat) (x : Line) (s : State), lineAt s l = x → x.striker = some due →
      now = max s.time.now due →
      ∃ t, exec (.strikerOnTimeEnd l) s = .next t ∧ t.time.now = now ∧ OnlyChanges [.clockwork, .bells] s t ∧
        (∀ k < 8, k ≠ l.val → lineAt t k = lineAt s k) ∧
        (x.deferred = false → x.st ≠ .call → lineAt t l = { x with striker := none }) ∧
        (x.deferred = false → x.st = .call → x.on = true → x.pending = none →
          if x.stroke + 1 < x.pattern.getD x.group 0 then
            lineAt t l = { x with striker := none, on := false, timer := some (now + s.cfg.bells.strokeGap) }
          else if x.group + 1 < x.pattern.length then
            lineAt t l = { x with striker := none, on := false, timer := some (now + s.cfg.bells.groupGap) }
          else
            (lineAt t l).st = .gap ∧ (lineAt t l).striker = none ∧
              (lineAt t l).timer = some (now + s.cfg.bells.codeGap) ∧
              (lineAt t l).queue = x.queue.map (fun c =>
                match c.st with
                | .sounding _ =>
                  { c with
                    st := .awaitingRepeat, repeats := c.repeats + 1, dueTaken := false
                    due := some (now + 1000 * ((s.cfg.codes.get c.code).map CodeDef.interval).getD 0) }
                | .waiting | .awaitingRepeat => c)) ∧
        (x.deferred = true → x.st = .gap →
          lineAt t l = { x with striker := none, deferred := false, timer := some (now + s.cfg.bells.codeGap) })) ∧
  (∀ (l : Fin 8) (due now : Nat) (x : Line) (s : State), lineAt s l = x → now = max s.time.now due →
      (x.timer = some due →
        ∃ t, exec (.lineTimer l) s = .next t ∧ t.time.now = now ∧ OnlyChanges [.clockwork, .bells] s t ∧
          (x.st = .call → x.stroke + 1 < x.pattern.getD x.group 0 →
            lineAt t l =
              { x with timer := none, stroke := x.stroke + 1, on := true, striker := some (now + s.cfg.bells.onTime) }) ∧
          (x.st = .call → x.pattern.getD x.group 0 ≤ x.stroke + 1 →
            lineAt t l =
              { x with
                timer := none, group := x.group + 1, stroke := 0, on := true
                striker := some (now + s.cfg.bells.onTime) }) ∧
          (x.st = .strokes → 2 ≤ x.left →
            lineAt t l =
              { x with left := x.left - 1, timer := some (now + 1000), striker := some (now + s.cfg.bells.onTime) }) ∧
          (x.st = .strokes → x.left ≤ 1 → x.pending = none → x.striker = none →
            (lineAt t l).st = .gap ∧ (lineAt t l).left = 0 ∧ (lineAt t l).timer = some (now + s.cfg.bells.codeGap)) ∧
          (x.st = .gap → x.queue = [] → x.pending = none → x.striker = none →
            (lineAt t l).st = .idle ∧ (lineAt t l).timer = none) ∧
          (x.st = .fireRinging →
            lineAt t l =
              { x with
                timer := some (now + s.cfg.bells.firePeriod), striker := some (now + s.cfg.bells.onTime) })) ∧
      (∀ (o : Origin) (c : Nat) (y : Call),
        x.queue.find? (fun z => decide (z.origin = o ∧ z.code = c)) = some y → y.st = .awaitingRepeat →
        y.due = some due → y.dueTaken = false →
        ∃ t, exec (.callDueTime l o c) s = .next t ∧ t.time.now = now ∧
          if ((s.cfg.codes.get c).map CodeDef.maxRepeats).getD 0 < y.repeats then
            (lineAt t l).queue = x.queue.filter (fun z => !decide (z.origin = o ∧ z.code = c)) ∧
              Queued .callUnanswered (some l.val) (originCode o + 256 * c) s t ∧
              (∀ n < 48, o = .station n → (t.bells.lamps.get n).steady = .unanswered) ∧ (lineAt t l).st = x.st
          else
            t.link.events = s.link.events ∧ t.bells.lamps = s.bells.lamps ∧
              (x.st ≠ .idle →
                lineAt t l =
                  { x with
                    queue := x.queue.map (fun z =>
                      if z.origin = o ∧ z.code = c then { z with dueTaken := true } else z) })) ∧
      (∀ n : Fin 48, (s.bells.lamps.get n).flash = some due →
        ∃ t, exec (.flashTimer n) s = .next t ∧ t.time.now = now ∧ OnlyChanges [.clockwork, .bells] s t ∧
          t.bells =
            { s.bells with lamps := s.bells.lamps.put n { steady := (s.bells.lamps.get n).steady, flash := none } })) ∧
  LinesTakeTheirTurns

/-! ### Phrases -/

/-- R141, R142, R144, R145, R147: PHRASE OPEN takes the lowest-numbered free pages and makes the phrase LOADING, PHRASE
CLOSE makes a whole LOADING phrase READY, and PHRASE DELETE frees the pages of a phrase not in use; each writes the
directory before its reply, and refuses otherwise, with its tests in their order. The last transfer of the directory
write sends the reply DONE with the payload, and after PHRASE CLOSE it queues PHRASE_READY with the page count. (The
model's: the bytes of a payload, log entry 9; what each of the three transfers carries, log entry 56; PHRASE_READY
before the reply, log entry 70; the stored length of an EMPTY phrase, log entry 71.) -/
def Obligations.PhrasesAreOpenedClosedAndDeleted : Prop :=
  (∀ (tag : Byte) (p n need : Nat) (s : State), s.link.closed = false → need = (n + 4095) / 4096 →
      ∃ t, exec (.phraseOpen tag p n) s = .next t ∧
        if ¬(p < 64 ∧ 1 ≤ n ∧ n ≤ 1044480) then Replied 0x40#8 tag .badValue [] t ∧ OnlyChanges [.line] s t
        else
          match phraseAt s p with
          | .loading m got =>
            Replied 0x40#8 tag .wrongState (1#8 :: (bytesLE 3 m ++ bytesLE 3 got)) t ∧ OnlyChanges [.line] s t
          | .ready _ _ => Replied 0x40#8 tag .wrongState [2#8] t ∧ OnlyChanges [.line] s t
          | .empty =>
            if (freePages s).length < need then
              Replied 0x40#8 tag .noSpace (bytesLE 1 need ++ bytesLE 1 (freePages s).length) t ∧ OnlyChanges [.line] s t
            else
              AwaitsWrite 0x40#8 tag t ∧ OnlyChanges [.line, .phrases] s t ∧ phraseAt t p = .loading n 0 ∧
                (∀ q < 64, q ≠ p → phraseAt t q = phraseAt s q) ∧
                (∀ g < 256, t.phrases.owners.get g =
                  if g ∈ (freePages s).take need then some p else s.phrases.owners.get g) ∧
                t.phrases.stream = some
                  { kind := .directory (bytesLE 1 need ++ bytesLE 1 ((freePages s).headD 0)), chunks := directoryChunks t } ∧
                (s.phrases.busy = none → s.phrases.waitA = none → s.phrases.waitB = none → t.phrases.busy = some .write)) ∧
  (∀ (tag : Byte) (p : Nat) (s : State), s.link.closed = false →
      (∃ t, exec (.phraseClose tag p) s = .next t ∧
        if 64 ≤ p then Replied 0x42#8 tag .badValue [] t ∧ OnlyChanges [.line] s t
        else
          match phraseAt s p with
          | .empty => Replied 0x42#8 tag .wrongState [] t ∧ OnlyChanges [.line] s t
          | .ready _ _ => Replied 0x42#8 tag .done [] t ∧ OnlyChanges [.line] s t
          | .loading n got =>
            if got < n then Replied 0x42#8 tag .notReady (bytesLE 3 n ++ bytesLE 3 got) t ∧ OnlyChanges [.line] s t
            else
              AwaitsWrite 0x42#8 tag t ∧ OnlyChanges [.line, .phrases] s t ∧ phraseAt t p = .ready n 0 ∧
                t.phrases.owners = s.phrases.owners ∧
                t.phrases.stream = some
                  { kind := .directoryReady p (bytesLE 3 n ++ bytesLE 1 (pageList s p).length)
                    chunks := directoryChunks t }) ∧
      (∃ t, exec (.phraseDelete tag p) s = .next t ∧
        if 64 ≤ p then Replied 0x43#8 tag .badValue [] t ∧ OnlyChanges [.line] s t
        else
          let deleted : Prop :=
            AwaitsWrite 0x43#8 tag t ∧ OnlyChanges [.line, .phrases] s t ∧ phraseAt t p = .empty ∧
              (∀ q < 64, q ≠ p → phraseAt t q = phraseAt s q) ∧
              (∀ g, 1 ≤ g → g < 256 → t.phrases.owners.get g =
                if s.phrases.owners.get g = some p then none else s.phrases.owners.get g) ∧
              t.phrases.stream = some
                { kind := .directory (bytesLE 1 (pageList s p).length), chunks := directoryChunks t }
          match phraseAt s p with
          | .empty => Replied 0x43#8 tag .done [0#8] t ∧ OnlyChanges [.line] s t
          | .loading _ _ => deleted
          | .ready _ use =>
            if 0 < use then Replied 0x43#8 tag .inUse (bytesLE 1 use) t ∧ OnlyChanges [.line] s t else deleted)) ∧
  (∀ (k tag : Byte) (kind : StreamKind) (x : Chunk) (pay : List Byte) (s : State), s.phrases.busy = some .write →
      s.phrases.stream = some { kind, chunks := [x] } → s.link.waiting = some (k, tag) → s.link.closed = true →
      s.link.kept = [] → kind = .directory pay ∨ (∃ p, kind = .directoryReady p pay) →
      ∃ t, exec .writeTransferDone s = .next t ∧ Replied k tag .done pay t ∧ t.phrases.stream = none ∧
        t.phrases.phrases = s.phrases.phrases ∧ t.phrases.owners = s.phrases.owners ∧
        (kind = .directory pay → t.link.events = s.link.events) ∧
        (∀ p, kind = .directoryReady p pay → Queued .phraseReady (some p) (pageList s p).length s t))

/-- R143, R149: PHRASE DATA: its tests in their order; an accepted one is written to the phrase's pages, in two
transfers where it crosses a page boundary, and the count of bytes received rises when the last transfer is complete. A
write transfer that is complete has stored its bytes and no others, and the port goes on with the next of its stream.
(The model's: the bytes of a payload, log entry 9.) -/
def Obligations.PhraseDataIsWrittenToItsPages : Prop :=
  (∀ (tag : Byte) (p off : Nat) (bs : List Byte) (s : State), s.link.closed = false →
      (∃ t, exec (.phraseData tag p off bs) s = .next t ∧
        if ¬(p < 64 ∧ 1 ≤ bs.length ∧ bs.length ≤ 224) then Replied 0x41#8 tag .badValue [] t ∧ OnlyChanges [.line] s t
        else
          match phraseAt s p with
          | .empty => Replied 0x41#8 tag .wrongState [0#8] t ∧ OnlyChanges [.line] s t
          | .ready _ _ => Replied 0x41#8 tag .wrongState [2#8] t ∧ OnlyChanges [.line] s t
          | .loading n got =>
            if off ≠ got then Replied 0x41#8 tag .outOfOrder (bytesLE 3 got) t ∧ OnlyChanges [.line] s t
            else if n < off + bs.length then
              Replied 0x41#8 tag .badValue (bytesLE 3 n ++ bytesLE 3 got) t ∧ OnlyChanges [.line] s t
            else
              AwaitsWrite 0x41#8 tag t ∧ OnlyChanges [.line, .phrases] s t ∧ t.phrases.phrases = s.phrases.phrases ∧
                t.phrases.owners = s.phrases.owners) ∧
      (∀ n k, p < 64 → 1 ≤ bs.length → bs.length ≤ 224 → phraseAt s p = .loading n off → off + bs.length ≤ n →
        s.phrases.busy = none → s.phrases.waitA = none → s.phrases.waitB = none → memoryWf s.store = true →
        k = (if off % 4096 + bs.length ≤ 4096 then 1 else 2) →
        (∀ i < bs.length, ∀ j < bs.length, byteAddress s p (off + i) = byteAddress s p (off + j) → i = j) →
        ∃ t, Runs (.phraseData tag p off bs :: List.replicate k .writeTransferDone) s t ∧
          (∀ i < bs.length, readByte t.store (byteAddress s p (off + i)) = bs.getD i 0#8) ∧
          (∀ a, (∀ i < bs.length, a ≠ byteAddress s p (off + i)) → readByte t.store a = readByte s.store a) ∧
          phraseAt t p = .loading n (off + bs.length) ∧ Replied 0x41#8 tag .done (bytesLE 3 (off + bs.length)) t ∧
          t.phrases.stream = none ∧ t.phrases.busy = none)) ∧
  (∀ (kind : StreamKind) (x : Chunk) (rest : List Chunk) (s : State), s.phrases.busy = some .write →
      s.phrases.stream = some { kind, chunks := x :: rest } → memoryWf s.store = true →
      ∃ t, exec .writeTransferDone s = .next t ∧ memoryWf t.store = true ∧
        (∀ a, readByte t.store a =
          if x.addr ≤ a ∧ a < x.addr + x.bytes.length then x.bytes.getD (a - x.addr) 0#8 else readByte s.store a) ∧
        t.phrases.stream = (if rest = [] then none else some { kind, chunks := rest }) ∧
        (rest ≠ [] → s.phrases.waitA = none → s.phrases.waitB = none → t.phrases.busy = some .write) ∧
        (rest = [] → s.phrases.waitA = none → s.phrases.waitB = none → t.phrases.busy = none))

/-- R139, R144, R146: the bytes of a completed directory write are a good section: a start that finds them has the same
phrases, but for those that were LOADING, and the same owners of their pages. That the records and the page map agree is
a premise, which every step keeps (`EveryStepKeepsTheStore`). (The model's: the byte order of the check word, log entry 36; what each of the three
transfers carries, log entry 56; the stored length of an EMPTY phrase, log entry 71.) -/
def Obligations.DirectoryLoadsBack : Prop :=
  ∀ s : State, PagesOk s →
    ∃ f, f = findDirectory ((directoryChunks s).flatMap Chunk.bytes) ∧
      f.dir ≠ .lost ∧ (f.dir = .recovered ↔ ∃ p < 64, ∃ n got, phraseAt s p = .loading n got) ∧
      (∀ p < 64, f.phrases.items.getD p .empty =
        (match phraseAt s p with
         | .ready n _ => .ready n 0
         | .empty | .loading _ _ => .empty)) ∧
      (∀ g, 1 ≤ g → g < 256 → f.owners.get g =
        (match s.phrases.owners.get g with
         | none => none
         | some p => match phraseAt s p with
           | .ready _ _ => some p
           | .empty | .loading _ _ => none))

/-! ### Announcements -/

/-- R153, R155, R156, R158, R163 to R165: ANNOUNCE: its tests in their order; an accepted one enters a record with a new
handle 1 to 255, which plays at once from its first phrase where it can start and no other record can, and stays QUEUED where
it cannot; the reply names its channel, or QUEUED. DEFINE EVACUATION takes a list of 1 to 8 phrase ids. ANNOUNCE CANCEL of a
handle in the table takes the record out with ANNOUNCE_DONE (1, cancelled), and where it plays its channel stops, with its
zones unrouted and its phrase ended, and the start rule is applied; an unknown handle is refused; and handle 0 ends the wish
for the evacuation, and stops one that plays in the same way. (The model's: the bytes of a payload, log entry 9; the
channel of a record that is complete at once, log entry 31; ANNOUNCE_DONE before what the start rule queues, log entry 78;
the code for QUEUED, log entry 84.) -/
def Obligations.AnnouncementsEnterAndLeaveTheTable : Prop :=
  (∀ (tag : Byte) (zones : Set8) (ps : List Nat) (n : Nat) (s : State), s.link.closed = false →
      let listOk : Prop := 1 ≤ ps.length ∧ ps.length ≤ 8 ∧ ∀ p ∈ ps, p ≤ 63
      (s.fire.latch = true →
        ∃ t, exec (.announce tag zones ps n) s = .next t ∧ Replied 0x49#8 tag .fireMode [] t ∧ OnlyChanges [.line] s t) ∧
      (s.fire.latch = false → zones = 0#8 ∨ ¬ listOk →
        ∃ t, exec (.announce tag zones ps n) s = .next t ∧ Replied 0x49#8 tag .badValue [] t ∧ OnlyChanges [.line] s t) ∧
      (s.fire.latch = false → zones ≠ 0#8 → listOk → 12 ≤ s.ann.table.length →
        ∃ t, exec (.announce tag zones ps n) s = .next t ∧ Replied 0x49#8 tag .queueFull [] t ∧
          OnlyChanges [.line] s t) ∧
      (s.fire.latch = false → zones ≠ 0#8 → listOk → s.ann.table.length < 12 →
        ∃ t h place, exec (.announce tag zones ps n) s = .next t ∧ 1 ≤ h ∧ h ≤ 255 ∧ (∀ r ∈ s.ann.table, r.handle ≠ h) ∧
          Replied 0x49#8 tag (if n ≤ 3 then .accepted else .clamped)
            [BitVec.ofNat 8 h, BitVec.ofNat 8 (min 3 n), place] t ∧
          t.ann.lastHandle = h ∧
          (∀ r : Ann,
            r =
              { handle := h, cls := .general, zones, phrases := ps, repeats := min 3 n, restarts := 0
                entry := s.ann.nextEntry } →
            let plays (p : Nat) : Prop := ∃ len use, phraseAt s p = .ready len use ∧ 1 ≤ len
            ((∃ p q, ps = p :: q ∧ plays p) → r ∈ t.ann.table) ∧
            ((∃ p ∈ ps, plays p) →
              (∀ g ∈ s.ann.table, g.cls = .closing → s.ann.chanA.handle = some g.handle ∨ s.ann.chanB.handle = some g.handle) →
              r ∈ t.ann.table) ∧
            ((∃ p ∈ ps, plays p) ∨ CannotStart s zones → GeneralEnters r s t)) ∧
          (ChannelsOk s →
            place =
              if t.ann.chanA.handle = some h then 0#8
              else if t.ann.chanB.handle = some h then 1#8
              else if ∃ r ∈ t.ann.table, r.handle = h then 0xFF#8
              else if s.ann.chanA.st = .idle then 0#8
              else if s.ann.chanB.st = .idle then 1#8
              else 0xFF#8)) ∧
      (∃ t, exec (.defineEvacuation tag ps) s = .next t ∧
        (¬ listOk → Replied 0x48#8 tag .badValue [] t ∧ OnlyChanges [.line] s t) ∧
        (listOk → t.cfg = { s.cfg with evac := some ps } ∧ MarkedChanged s t ∧ Replied 0x48#8 tag .done (listBytes ps) t))) ∧
  (∀ (tag : Byte) (h : Nat) (s : State), s.link.closed = false → h ≤ 255 →
      ∃ t, exec (.announceCancel tag h) s = .next t ∧
        if h = 0 then
          Replied 0x4A#8 tag .done [] t ∧ EvacuationStops s t ∧
            (s.ann.chanA.handle = some 0 ∨ s.ann.chanB.handle = some 0 → Queued .announceDone (some 0) 1 s t)
        else if ∃ r ∈ s.ann.table, r.handle = h then
          Replied 0x4A#8 tag .done
              [if s.ann.chanA.handle = some h ∨ s.ann.chanB.handle = some h then 1#8 else 0#8] t ∧
            (∀ r ∈ t.ann.table, r.handle ≠ h) ∧ Queued .announceDone (some h) 1 s t ∧
            (s.ann.chanA.handle ≠ some h → s.ann.chanB.handle ≠ some h →
              t.ann = { s.ann with table := s.ann.table.filter (fun r => decide (r.handle ≠ h)) } ∧
                t.phrases = s.phrases) ∧
            ∀ ch, ChannelsOk s → (channelAt s ch).handle = some h → s.ann.wanted = false →
              let others : List Ann := s.ann.table.filter (fun r => decide (r.handle ≠ h))
              ((∀ r ∈ others, (channelAt s (otherChan ch)).handle = some r.handle) →
                ChannelStops ch s t ∧ t.ann.table = others) ∧
              ((channelAt s (otherChan ch)).st ≠ .idle → PlaysNext ch others s t)
        else Replied 0x4A#8 tag .badValue [] t ∧ OnlyChanges [.line] s t)

/-- R149, R153, R154, R157 to R163, R165: a read that is complete fills its channel's block buffer with the bytes of the
store memory, or is thrown away for a channel that has stopped; a block that ends frees its buffer, and the next block
of the phrase plays, or, after the last, what a part of Safety.lean says: the next READY phrase, the gap, the end of the
announcement, or a yield. At the end of the gap between two passes the next pass begins with the first READY phrase of
the list, for the evacuation with the list now in force, and the missing ones before it are reported; which closing
announcement starts and which channels it marks to yield, another part says; a sample time gives each channel that plays
the next byte of its block, and 128 to a channel that does not. (The model's: which announcement started latest, log entry
5; the running time after a timed event, log entry 6; samples and block ends as separate commands, log entry 29; when a
block is asked for, log entry 30; both channels yielding at one event, log entry 58; what one event is, log entry 59
(DEDUCED); ANNOUNCE_DONE before what the start rule queues, log entry 78.) -/
def Obligations.ChannelsPlayTheirPhrases : Prop :=
  (∀ (ch : Chan) (q : ReadReq) (s : State),
      (s.phrases.busy = some (.read ch q false) →
        ∃ t, exec .blockReadDone s = .next t ∧ OnlyChanges [.phrases, .announcer] s t ∧
          (channelAt t ch).buffer q.block = .full q.block (readBytes s.store q.addr q.len)) ∧
      (s.phrases.busy = some (.read ch q true) →
        ∃ t, exec .blockReadDone s = .next t ∧ OnlyChanges [.phrases] s t ∧
          t.phrases.phrases = s.phrases.phrases ∧ t.phrases.owners = s.phrases.owners ∧
          (s.phrases.waitA = none → s.phrases.waitB = none → s.phrases.stream = none → t.phrases.busy = none)) ∧
      (∀ c j bs p, channelAt s ch = c → c.st = .phrase → c.block = j → c.buffer j = .full j bs → c.granted = some p →
        (j + 1) * 256 < (phraseAt s p).length → c.buffer (j + 1) ≠ .empty →
        ∃ t, exec (.blockPlayEnd ch) s = .next t ∧ OnlyChanges [.phrases, .announcer] s t ∧
          (channelAt t ch).block = j + 1 ∧ (channelAt t ch).offset = 256 * j + bs.length ∧
          (channelAt t ch).buffer j ≠ .full j bs ∧ (channelAt t ch).buffer (j + 1) = c.buffer (j + 1) ∧
          (channelAt t ch).st = .phrase ∧ (channelAt t ch).handle = c.handle ∧ (channelAt t ch).granted = some p)) ∧
  (∀ (ch : Chan) (c : Channel) (due p len use : Nat) (ps missing rest : List Nat) (s : State), channelAt s ch = c →
      c.gap = some due → ps = (if c.handle = some 0 then s.cfg.evac.getD c.phrases else c.phrases) →
      ps = missing ++ p :: rest → (∀ q ∈ missing, ¬ IsReady s q) → phraseAt s p = .ready len use →
      c.yield = false ∨ missing = [] → s.link.events.length + missing.length ≤ 48 →
      ∃ t, exec (.passGapTimer ch) s = .next t ∧ t.time.now = max s.time.now due ∧
        OnlyChanges [.clockwork, .announcer, .phrases, .events] s t ∧
        (missing = [] → OnlyChanges [.clockwork, .announcer, .phrases] s t) ∧ (channelAt t ch).st = .phrase ∧
        (channelAt t ch).gap = none ∧ (channelAt t ch).index = missing.length ∧
        (channelAt t ch).phrases = ps ∧ (channelAt t ch).granted = some p ∧ (channelAt t ch).offset = 0 ∧
        (channelAt t ch).handle = c.handle ∧ (channelAt t ch).passes = c.passes ∧
        (channelAt t ch).skips = skipsWith c 0 missing ∧ (channelAt t ch).yield = c.yield ∧
        t.ann.table = s.ann.table ∧ t.ann.routing = s.ann.routing ∧
        t.link.events = s.link.events ++ skipRecords c 0 missing s ∧ phraseAt t p = .ready len (use + 1)) ∧
  PhrasesFollowEachOther ∧ ClosingCandidatesStartOrMark ∧
  (∀ s : State,
      ∃ t, exec .audioSample s = .next t ∧ OnlyChanges [.clockwork, .announcer] s t ∧
        t.time.samples = s.time.samples + 1 ∧ t.time.now = max s.time.now ((s.time.samples + 1) / 8) ∧
        t.ann.table = s.ann.table ∧ t.ann.routing = s.ann.routing ∧
        ∀ ch c, channelAt s ch = c →
          (∀ j bs, c.st = .phrase → c.block = j → c.buffer j = .full j bs → 256 * j ≤ c.offset →
            c.offset < 256 * j + bs.length →
            channelAt t ch = { c with sample := bs.getD (c.offset - 256 * j) 0#8, offset := c.offset + 1 }) ∧
          ((c.st ≠ .phrase ∨ c.buffer c.block = .empty ∨ c.buffer c.block = .requested c.block) →
            channelAt t ch = { c with sample := 128#8 }))

/-! ### The store clock and the closing programme -/

/-- R168, R169, R172 to R174, R181: SET CLOCK sets the clock and its tick, arms an IDLE or ARMED programme for the day
that is set, and arms a COMPLETE or ABORTED one for a day other than the programme day. A second tick counts the seconds
and the weekdays, and starts an ARMED programme whose start due time has come; a midnight arms, but for a RUNNING or
HELD programme, which it marks, and a programme so marked is armed for the clock's day when it ends, here by CLOSING
ABORT. What an arming leaves is said by `Arms` of Safety.lean: IDLE, ARMED, or a start, which the fire latch and a
wholly missed programme prevent. SET CLOCK while RUNNING or HELD is in `ClosingRequests`. (The model's: the running time
after a timed event, log entry 6; the bytes of a payload, log entry 9; the mark of the midnight, log entry 25; the next
step index while ARMED and COMPLETE, log entries 37 and 60.) -/
def Obligations.ClockIsSetAndTicks : Prop :=
  (∀ (tag : Byte) (sec day : Nat) (s : State), s.link.closed = false → s.prog.st ≠ .held →
    (∃ t, exec (.setClock tag sec day) s = .next t ∧
      if 86400 ≤ sec ∨ 7 ≤ day then Replied 0x05#8 tag .badValue [] t ∧ OnlyChanges [.line] s t
      else
        t.clock = { isSet := true, seconds := sec, weekday := day, tickDue := s.time.now + 1000 } ∧
          Replied 0x05#8 tag .done
            (clockBytes s.clock ++ clockBytes { isSet := true, seconds := sec, weekday := day, tickDue := 0 }) t ∧
          (s.prog.st = .idle ∨ s.prog.st = .armed → Arms true sec day s t) ∧
          (s.prog.st = .complete ∨ s.prog.st = .aborted →
            if s.prog.day = some day then t.prog = s.prog else Arms true sec day s t)) ∧
    (s.clock.isSet = false → ∃ t, exec .secondTick s = .next t ∧ OnlyChanges [.shutters, .bridges] s t)) ∧
  (∀ s : State, s.clock.isSet = true →
      ∃ t, exec .secondTick s = .next t ∧ t.time.now = max s.time.now s.clock.tickDue ∧
        t.clock =
          { isSet := true, seconds := secondsNext s, weekday := weekdayNext s, tickDue := s.clock.tickDue + 1000 } ∧
        (s.clock.seconds = 86399 → programmeRuns s = false → Arms true 0 (weekdayNext s) s t) ∧
        (s.clock.seconds ≠ 86399 → s.prog.st ∈ [.idle, .complete, .aborted] → t.prog = s.prog) ∧
        (∀ P k l x z, s.clock.seconds ≠ 86399 → s.prog.st = .armed → IsTime s (secondsNext s) (weekdayNext s) P →
          LowestSlot s k → s.cfg.steps.get k = some x → HighestSlot s l → s.cfg.steps.get l = some z →
          (P < dueAt s x → t.prog = s.prog) ∧
          (dueAt s x ≤ P → s.fire.latch = true →
            t.prog = { s.prog with st := .aborted } ∧ Records .closingMissed none 2 s t) ∧
          (dueAt s x ≤ P → s.fire.latch = false → dueAt s z < P →
            t.prog = { s.prog with st := .complete, next := none, hold := none, watch := none } ∧
              Records .closingMissed none 1 s t) ∧
          (dueAt s x ≤ P → s.fire.latch = false → P ≤ dueAt s z →
            Records .closingStarted (some 0) (s.prog.reference.fdiv 60 % 65536).toNat s t ∧
              t.prog.st ∈ [.running, .held, .complete])) ∧
        (∀ P, s.prog.st = .running → IsTime s (secondsNext s) (weekdayNext s) P →
          (∀ k, s.prog.next = some k → k < 16 ∧ ∃ x, s.cfg.steps.get k = some x ∧ P < dueAt s x) →
          t.prog = { s.prog with pastMidnight := s.prog.pastMidnight || decide (s.clock.seconds = 86399) }) ∧
        (s.prog.st = .held → s.prog.watch = none →
          s.loop.st ∈ [.referencing, .starting, .running, .draining, .stopping, .braking, .creeping] →
          t.prog = { s.prog with pastMidnight := s.prog.pastMidnight || decide (s.clock.seconds = 86399) })) ∧
  (∀ (tag : Byte) (s : State), s.link.closed = false → programmeRuns s = true → s.prog.pastMidnight = true →
      ∃ t, exec (.closingAbort tag) s = .next t ∧ Records .closingAborted s.prog.next 0 s t ∧
        Arms s.clock.isSet s.clock.seconds s.clock.weekday s t)

/-- R170, R171: DEFINE CLOSING TIMES and DEFINE STEP: the range tests with their refusals, the refusal of a step while the
programme runs, and the order of the offsets over the defined slots. In IDLE and ARMED both arm again, in the other states
they leave the programme as it is. (The model's: the bytes of a payload, log entry 9; the next step index while ARMED and
COMPLETE, log entries 37 and 60.) -/
def Obligations.ClosingSettingsAreDefined : Prop :=
  ∀ (tag : Byte) (s : State), s.link.closed = false → s.prog.st ≠ .held →
    (∀ times : List (Option Nat),
      ∃ t, exec (.defineClosingTimes tag times) s = .next t ∧
        if times.length = 7 ∧ (∀ x ∈ times, ∀ m, x = some m → 600 ≤ m ∧ m ≤ 1320) then
          (∀ d < 7, t.cfg.times.get d = times.getD d none) ∧ t.cfg = { s.cfg with times := t.cfg.times } ∧
            MarkedChanged s t ∧ Replied 0x50#8 tag .done (times.flatMap (optLE 2)) t ∧
            if s.prog.st = .idle ∨ s.prog.st = .armed then Arms s.clock.isSet s.clock.seconds s.clock.weekday s t
            else t.prog = s.prog
        else Replied 0x50#8 tag .badValue [] t ∧ OnlyChanges [.line] s t) ∧
    (∀ k x, programmeRuns s = true →
      ∃ t, exec (.defineStep tag k x) s = .next t ∧ Replied 0x51#8 tag .wrongState [] t ∧ OnlyChanges [.line] s t) ∧
    (∀ k x, programmeRuns s = false → 16 ≤ k ∨ (∃ v, x = some v ∧ BadStep v) →
      ∃ t, exec (.defineStep tag k x) s = .next t ∧ Replied 0x51#8 tag .badValue [] t ∧ OnlyChanges [.line] s t) ∧
    (∀ k (x : Option StepReq) (y : Option ClosingStep) (same : Bool), programmeRuns s = false → k < 16 →
      (x = none ∧ y = none ∧ same = true ∨
        ∃ v z, x = some v ∧ y = some z ∧ z.offset = v.offset ∧ -90 ≤ v.offset ∧ v.offset ≤ 30 ∧
          ((∃ ps zs, v = ⟨v.offset, 0, some ps, some zs, none, none, none, none, none⟩ ∧ 1 ≤ ps.length ∧ ps.length ≤ 8 ∧
              (∀ p ∈ ps, p ≤ 63) ∧ zs ≠ 0#8 ∧ z.action = .announce ps zs ∧ same = true) ∨
           (∃ n ls, v = ⟨v.offset, 1, none, none, some n, some ls, none, none, none⟩ ∧ ls ≠ 0#8 ∧
              z.action = .strokes (max 1 (min 12 n)) ls ∧ same = decide (1 ≤ n ∧ n ≤ 12)) ∨
           (v = ⟨v.offset, 2, none, none, none, none, none, none, none⟩ ∧ z.action = .loopDrain ∧ same = true) ∨
           (∃ h, v = ⟨v.offset, 3, none, none, none, none, none, none, some h⟩ ∧
              z.action = .loopStop (max 1 (min 60 h)) ∧ same = decide (1 ≤ h ∧ h ≤ 60)) ∨
           (v = ⟨v.offset, 3, none, none, none, none, none, none, none⟩ ∧ z.action = .loopStop 20 ∧ same = true) ∨
           (∃ g h, v = ⟨v.offset, 4, none, none, none, none, some g, none, some h⟩ ∧ g ≤ 7 ∧
              z.action = .shuttersClose g (max 1 (min 60 h)) ∧ same = decide (1 ≤ h ∧ h ≤ 60)) ∨
           (∃ g, v = ⟨v.offset, 4, none, none, none, none, some g, none, none⟩ ∧ g ≤ 7 ∧
              z.action = .shuttersClose g 20 ∧ same = true) ∨
           (∃ fs, v = ⟨v.offset, 5, none, none, none, none, none, some fs, none⟩ ∧ fs ≠ 0#8 ∧
              z.action = .landingsLock fs ∧ same = true))) →
      ∃ t, exec (.defineStep tag k x) s = .next t ∧
        let ordered : Prop := ∀ i < 16, ∀ j < 16, i < j → ∀ a b,
          (s.cfg.steps.put k y).get i = some a → (s.cfg.steps.put k y).get j = some b → a.offset ≤ b.offset
        (ordered →
          t.cfg = { s.cfg with steps := s.cfg.steps.put k y } ∧ MarkedChanged s t ∧
            (∃ payload, Replied 0x51#8 tag (if same then .done else .clamped) payload t) ∧
            if s.prog.st = .idle ∨ s.prog.st = .armed then Arms s.clock.isSet s.clock.seconds s.clock.weekday s t
            else t.prog = s.prog) ∧
        (¬ ordered → Replied 0x51#8 tag .badValue [] t ∧ OnlyChanges [.line] s t))

/-- R20, R33, R34, R36, R76, R130 to R132, R157, R169, R173 to R178, R180, R182, R183: CLOSING START starts the
programme with the first defined step due at once and takes the due steps, with any table (and with one LANDINGS_LOCK, which
locks the listed floors); CLOSING DELAY adds to the delay, at most 60 minutes in all, in ARMED, where the start test is made,
RUNNING and HELD. What a step does when it falls
due, at a second tick, at the start or at a forward jump of SET CLOCK, is said for each action by seven parts of
Safety.lean: stale steps, ANNOUNCE, STROKES, LOOP_DRAIN, LOOP_STOP, SHUTTERS_CLOSE and LANDINGS_LOCK; another says which
slots one pass begins, and another what SET CLOCK does to a programme that is RUNNING or HELD. (The model's: the running
time after a timed event, log entry 6; the bytes of a payload, log entry 9; which landings a result lists and which due
time a delay reports, log entry 31; the end of a programme past midnight, log entry 25; the order of the lines and
shutters of a step, log entry 54; the next step index in COMPLETE, log entry 60; which shutters a result lists as
CLOSED, log entry 61; the detail of a stale step, log entry 86.) -/
def Obligations.ClosingRequests : Prop :=
  (∀ (tag : Byte) (s : State), s.link.closed = false →
    (s.fire.latch = true →
      ∃ t, exec (.closingStart tag) s = .next t ∧ Replied 0x52#8 tag .fireMode [] t ∧ OnlyChanges [.line] s t) ∧
    (s.fire.latch = false → definedSlots s = [] ∨ s.clock.isSet = false ∨ programmeRuns s = true →
      ∃ t, exec (.closingStart tag) s = .next t ∧ Replied 0x52#8 tag .wrongState [] t ∧ OnlyChanges [.line] s t) ∧
    (∀ k off fs, s.fire.latch = false → s.clock.isSet = true → programmeRuns s = false → definedSlots s = [k] →
      s.cfg.steps.get k = some { offset := off, action := .landingsLock fs } → s.clock.weekday < 7 →
      ∃ t, exec (.closingStart tag) s = .next t ∧ t.prog.st = .complete ∧ t.prog.day = some s.clock.weekday ∧
        t.prog.delay = 0 ∧ t.prog.reference = s.clock.seconds - 60 * off ∧
        (∃ done, t.prog.results.get k = .done (.locked done)) ∧
        (∀ l < 8, t.loop.lockout.get l =
          (s.loop.lockout.get l || (decide (l < s.cfg.geom.landings) && fs.getLsbD l))) ∧
        t.loop = { s.loop with lockout := t.loop.lockout } ∧
        Queued .closingStarted (some 1) (((s.clock.seconds : Int) - 60 * off).fdiv 60 % 65536).toNat s t ∧
        Replied 0x52#8 tag .done (signedLE 3 (s.clock.seconds - 60 * off) ++ signedLE 3 s.clock.seconds) t) ∧
    (∀ minutes, s.prog.st ∈ [.idle, .complete, .aborted] →
      ∃ t, exec (.closingDelay tag minutes) s = .next t ∧ Replied 0x53#8 tag .wrongState [] t ∧
        OnlyChanges [.line] s t) ∧
    (∀ minutes, s.prog.st = .running →
      ∃ t payload, exec (.closingDelay tag minutes) s = .next t ∧
        t.prog = { s.prog with delay := min 60 (s.prog.delay + max 1 (min 60 minutes)) } ∧
        Replied 0x53#8 tag
          (if 1 ≤ minutes ∧ minutes ≤ 60 ∧ s.prog.delay + minutes ≤ 60 then .done else .clamped) payload t ∧
        payload.head? = some (BitVec.ofNat 8 (min 60 (s.prog.delay + max 1 (min 60 minutes)))))) ∧
  ClosingStartTakesItsSteps ∧ DelaysMoveTheDueTimes ∧
  PassesTakeEveryDueStep ∧ StaleStepsAreSkipped ∧ AnnounceStepsEnterARecord ∧ StrokesStepsReachTheirLines ∧
  DrainStepsDrainARunningLoop ∧
  StopStepsWaitForTheLoop ∧ ShutterStepsWatchTheGroup ∧ LockStepsLockTheLandings ∧ ClockChangesMoveTheProgramme

/-- R184: CLOSING ABORT. (A programme that ran past midnight is followed at once by the arming for the clock's day,
R181: that is in `ClockIsSetAndTicks`; here the ABORTED state of one that did not, by the model's mark of log entry 25.)
-/
def Obligations.ClosingAbortEndsTheProgramme : Prop :=
  ∀ (tag : Byte) (s : State), s.link.closed = false →
    (programmeRuns s = false →
      ∃ t, exec (.closingAbort tag) s = .next t ∧ Replied 0x54#8 tag .wrongState [] t ∧ OnlyChanges [.line] s t) ∧
    (programmeRuns s = true →
      ∃ t, exec (.closingAbort tag) s = .next t ∧ Replied 0x54#8 tag .done [] t ∧
        Queued .closingAborted s.prog.next 0 s t ∧
        (s.prog.pastMidnight = false →
          t.prog = { s.prog with st := .aborted, hold := none, watch := none, results := t.prog.results } ∧
            (∀ k < 16, t.prog.results.get k =
              if s.prog.st = .held ∧ s.prog.next = some k then .aborted else s.prog.results.get k) ∧
            OnlyChanges [.line, .programme, .events, .shutters, .bridges] s t ∧
            ∀ i < 24, ∀ d, demandOf s i = some d → ∃ e, demandOf t i = some e ∧ e.dir = d.dir ∧ e.cls = d.cls))

/-- R175, R177 to R179: the hold timer of a HELD step: STEP_TIMEOUT is queued, the step's result is TIMED_OUT with the
loop state or the shutters still awaited, and the programme goes on to the next slot, or is COMPLETE after the last; and
the result of its owner ends a hold, which a part of Safety.lean says. (The model's: the running time after a timed
event, log entry 6; when a held step looks at its owner, log entry 20; the end of a programme past midnight, log entry
25; the next step index in COMPLETE, log entry 60; which shutters a result lists as CLOSED, log entry 61.) -/
def Obligations.HoldTimerEndsTheStep : Prop :=
  (∀ (due k : Nat) (x : ClosingStep) (s : State), s.prog.st = .held → s.prog.hold = some due → s.prog.next = some k →
    k < 16 → s.cfg.steps.get k = some x → (∀ j, k < j → j < 16 → s.cfg.steps.get j = none) →
    s.prog.pastMidnight = false →
    ∃ t, exec .holdTimer s = .next t ∧ t.time.now = max s.time.now due ∧ t.prog.st = .complete ∧
      t.prog.next = none ∧ t.prog.hold = none ∧ t.prog.watch = none ∧ t.loop = s.loop ∧
      Queued .stepTimeout (some k) x.action.code s t ∧
      (s.prog.watch = none → t.prog.results.get k = .timedOut (.loopAt s.loop.st)) ∧
      (∀ w, s.prog.watch = some w →
        t.prog.results.get k = .timedOut (.pendingShutters
          ((w.shutters.filter (fun p => decide (p.2 = .pending))).map Prod.fst)))) ∧
  (∀ (due k P : Nat) (x : ClosingStep) (info : TimeoutInfo) (s : State), s.prog.st = .held → s.prog.hold = some due →
    s.prog.next = some k → k < 16 → s.cfg.steps.get k = some x → IsTime s s.clock.seconds s.clock.weekday P →
    NoneDueAbove s k P → (HighestSlot s k → s.prog.pastMidnight = false) →
    info =
      (match s.prog.watch with
       | none => .loopAt s.loop.st
       | some w => .pendingShutters ((w.shutters.filter (fun p => decide (p.2 = .pending))).map Prod.fst)) →
    ∃ t, exec .holdTimer s = .next t ∧ t.time.now = max s.time.now due ∧
      StepOver k (.timedOut info) .stepTimeout x.action.code s t ∧ t.prog.hold = none ∧ t.prog.watch = none ∧
      OnlyChanges [.clockwork, .programme, .events, .shutters, .bridges] s t) ∧
  OwnersEndTheHold

/-! ### The field scan -/

/-- R14, R15, R17 to R19, R21, R49, R71 to R73, R81, R82, R84 to R87, R97, R101, R114, R119 to R121, R127, R205 to R207: a good scan
accepts an input when two good scans in a row read it alike, and the cards latch what the scan has carried to them; bad
scans are counted, and the third in a row sets FIELD_LOST, stops the loop with the fault FIELD_LOST, stops every drive,
and leaves the accepted values as they are; the first good scan afterwards clears it, queues FIELD_RESTORED with the
number of bad scans since, and makes every input await fresh acceptance. Every scan sends the commanded outputs, whose value
at each point a part of Safety.lean gives. What accepted inputs do is said by eight parts of it: stop buttons and turn flaps, sill edges, curtain beams, crossings and occupancy, limits at rest, limits
of a drive, obstructions, and presses and attends. (The model's: the running time after a timed event, log entry 6; which
half of a lamp's flash comes first, log entry 28; when the cards latch, log entry 35; the end of WAIT_CLEAR, log entry 21 (DEDUCED); the agreement of two scans for a first
acceptance, log entry 64; the order of what one scan brings, log entries 18, 46, 47, 52 and 65, where several inputs are
accepted.) -/
def Obligations.ScansAcceptLoseAndReturn : Prop :=
  (∀ (v : BitVec 256) (s : State), s.field.lost = false →
      ∃ t, exec (.scanEvent v 0x5A3C#16) s = .next t ∧ t.time.now = max s.time.now s.time.scanDue ∧
        t.time.scanDue = s.time.scanDue + 4 ∧ t.field.mismatches = 0 ∧ t.field.lost = false ∧
        t.field.losses = s.field.losses ∧ t.field.latched = s.field.sending ∧ t.field.sending = outputs t ∧
        ∀ p < 256,
          t.field.inputs.get p =
            (let x := s.field.inputs.get p
             if x.raw = some (v.getLsbD p) then
               { accepted := some (v.getLsbD p), raw := some (v.getLsbD p), awaiting := false }
             else { accepted := x.accepted, raw := some (v.getLsbD p), awaiting := x.awaiting })) ∧
  (∀ (v : BitVec 256) (check : BitVec 16) (s : State), s.prog.st ≠ .held →
      (check ≠ 0x5A3C#16 →
        ∃ t, exec (.scanEvent v check) s = .next t ∧ t.field.inputs = s.field.inputs ∧
          t.field.latched = s.field.latched ∧ t.field.sending = outputs t ∧ t.time.scanDue = s.time.scanDue + 4 ∧
          (s.field.lost = true → t.field.lost = true ∧ t.field.losses = min 65535 (s.field.losses + 1)) ∧
          (s.field.lost = false → s.field.mismatches ≤ 1 →
            t.field.lost = false ∧ t.field.mismatches = s.field.mismatches + 1 ∧ t.loop = s.loop) ∧
          (s.field.lost = false → 2 ≤ s.field.mismatches →
            t.field.lost = true ∧ t.field.losses = 0 ∧ Queued .fieldLost none 0 s t ∧
              t.loop.recognisers = Tab.fill 16 .waitClear ∧
              (s.loop.st ≠ .unconfigured → s.loop.st ≠ .faultStop →
                t.loop.st = .faultStop ∧ t.loop.fault = some { cause := .fieldLost, subject := none } ∧
                  contactorClosed t = false) ∧
              (∀ b < 4, ∀ i, (bridgeAt s b).shutter = some i → bridgeOf s i = some b →
                ∀ raise sr op g, (bridgeAt t b).st ≠ .driving raise sr op g))) ∧
      (check = 0x5A3C#16 → s.field.lost = true →
        ∃ t, exec (.scanEvent v check) s = .next t ∧ t.field.lost = false ∧ t.field.mismatches = 0 ∧
          t.field.latched = s.field.sending ∧ Queued .fieldRestored none s.field.losses s t ∧ t.loop = s.loop ∧
          t.bells = s.bells ∧
          ∀ p < 256, t.field.inputs.get p =
            { accepted := (s.field.inputs.get p).accepted, raw := some (v.getLsbD p), awaiting := true })) ∧
  OutputsShowTheState ∧ StopInputsFault ∧ SillEdgesAreChecked ∧ BeamsAreRecorded ∧ CrossingsAreCharged ∧ LimitsAtRestAreTaken ∧
  LimitsEndTheTravel ∧ EdgesObstructALowering ∧ PressesAndAttendsAreTaken

/-! ### What every step keeps -/

/-- Section 7.1: the store memory keeps its canonical form. R140, R141, R146: the phrase records and the page map keep
agreeing. -/
def Obligations.EveryStepKeepsTheStore : Prop :=
  (∀ s t : State, StoreOk s → step s = .next t → StoreOk t) ∧
  (∀ s t : State, PagesOk s → step s = .next t → PagesOk t)

/-- R194, R201: the settings in force stay in range, whatever requests come. -/
def Obligations.EveryStepKeepsTheSettings : Prop := ∀ s t : State, SettingsOk s → step s = .next t → SettingsOk t

/-- R121, R155, R195: the queues keep their bounds. R153, R155, R163: the channels keep agreeing with the announcement
table (with what one event is, log entry 59 (DEDUCED)). R102 to R104: the grant queue is served (at the end of an event, log
entry 20). -/
def Obligations.EveryStepKeepsTheQueues : Prop :=
  (∀ s t : State, QueuesOk s → step s = .next t → QueuesOk t) ∧
  (∀ s t : State, GrantsOk s → step s = .next t → GrantsOk t) ∧
  (∀ s t : State, ChannelsOk s → step s = .next t → ChannelsOk t)

/-- R61, R62, R64, R181, R185: the fire latch, the alarmed set, the zone states and the closing programme with its mark of
the midnight (log entry 25) keep agreeing. -/
def Obligations.EveryStepKeepsTheFireRecords : Prop := ∀ s t : State, FireOk s → step s = .next t → FireOk t

/-- R3, R7, R8, R16: while the settings are in range (which every step keeps), the loop state, the reference, the chain
position and the car table keep agreeing with the geometry. -/
def Obligations.EveryStepKeepsTheLoopRecords : Prop :=
  ∀ s t : State, SettingsOk s → LoopOk s → step s = .next t → LoopOk t

/-- The state after reset meets the eight conditions that every step keeps. (The model's: the store memory of that
state, log entry 12.) -/
def Obligations.ResetMeetsEveryCondition : Prop :=
  StoreOk State.reset ∧ PagesOk State.reset ∧ SettingsOk State.reset ∧ QueuesOk State.reset ∧ GrantsOk State.reset ∧
    ChannelsOk State.reset ∧ FireOk State.reset ∧ LoopOk State.reset
end

