-- ==== Sys2Proof/Laws/State.lean ====
section
/-! SUPPORT. What each update of the state does to each field, so that no proof unfolds an update of a record. -/

namespace Sys2Proof.Machine

@[simp] theorem stamp_pending (s : State) : (stamp s).pending = s.pending := rfl
@[simp] theorem stamp_time (s : State) :
    (stamp s).time = { s.time with seq := s.time.seq + 1 } := rfl
@[simp] theorem stamp_cfg (s : State) : (stamp s).cfg = s.cfg := rfl
@[simp] theorem stamp_store (s : State) : (stamp s).store = s.store := rfl
@[simp] theorem stamp_loop (s : State) : (stamp s).loop = s.loop := rfl
@[simp] theorem stamp_fire (s : State) : (stamp s).fire = s.fire := rfl
@[simp] theorem stamp_shutters (s : State) : (stamp s).shutters = s.shutters := rfl
@[simp] theorem stamp_bridges (s : State) : (stamp s).bridges = s.bridges := rfl
@[simp] theorem stamp_bells (s : State) : (stamp s).bells = s.bells := rfl
@[simp] theorem stamp_phrases (s : State) : (stamp s).phrases = s.phrases := rfl
@[simp] theorem stamp_ann (s : State) : (stamp s).ann = s.ann := rfl
@[simp] theorem stamp_clock (s : State) : (stamp s).clock = s.clock := rfl
@[simp] theorem stamp_prog (s : State) : (stamp s).prog = s.prog := rfl
@[simp] theorem stamp_link (s : State) : (stamp s).link = s.link := rfl
@[simp] theorem stamp_field (s : State) : (stamp s).field = s.field := rfl

@[simp] theorem advanceTo_pending (t : Nat) (s : State) : (advanceTo t s).pending = s.pending := rfl
@[simp] theorem advanceTo_time (t : Nat) (s : State) :
    (advanceTo t s).time = { s.time with now := max s.time.now t } := rfl
@[simp] theorem advanceTo_cfg (t : Nat) (s : State) : (advanceTo t s).cfg = s.cfg := rfl
@[simp] theorem advanceTo_store (t : Nat) (s : State) : (advanceTo t s).store = s.store := rfl
@[simp] theorem advanceTo_loop (t : Nat) (s : State) : (advanceTo t s).loop = s.loop := rfl
@[simp] theorem advanceTo_fire (t : Nat) (s : State) : (advanceTo t s).fire = s.fire := rfl
@[simp] theorem advanceTo_shutters (t : Nat) (s : State) : (advanceTo t s).shutters = s.shutters := rfl
@[simp] theorem advanceTo_bridges (t : Nat) (s : State) : (advanceTo t s).bridges = s.bridges := rfl
@[simp] theorem advanceTo_bells (t : Nat) (s : State) : (advanceTo t s).bells = s.bells := rfl
@[simp] theorem advanceTo_phrases (t : Nat) (s : State) : (advanceTo t s).phrases = s.phrases := rfl
@[simp] theorem advanceTo_ann (t : Nat) (s : State) : (advanceTo t s).ann = s.ann := rfl
@[simp] theorem advanceTo_clock (t : Nat) (s : State) : (advanceTo t s).clock = s.clock := rfl
@[simp] theorem advanceTo_prog (t : Nat) (s : State) : (advanceTo t s).prog = s.prog := rfl
@[simp] theorem advanceTo_link (t : Nat) (s : State) : (advanceTo t s).link = s.link := rfl
@[simp] theorem advanceTo_field (t : Nat) (s : State) : (advanceTo t s).field = s.field := rfl

@[simp] theorem modLoop_pending (f : Loop → Loop) (s : State) : (modLoop f s).pending = s.pending := rfl
@[simp] theorem modLoop_time (f : Loop → Loop) (s : State) : (modLoop f s).time = s.time := rfl
@[simp] theorem modLoop_cfg (f : Loop → Loop) (s : State) : (modLoop f s).cfg = s.cfg := rfl
@[simp] theorem modLoop_store (f : Loop → Loop) (s : State) : (modLoop f s).store = s.store := rfl
@[simp] theorem modLoop_loop (f : Loop → Loop) (s : State) :
    (modLoop f s).loop = f s.loop := rfl
@[simp] theorem modLoop_fire (f : Loop → Loop) (s : State) : (modLoop f s).fire = s.fire := rfl
@[simp] theorem modLoop_shutters (f : Loop → Loop) (s : State) : (modLoop f s).shutters = s.shutters := rfl
@[simp] theorem modLoop_bridges (f : Loop → Loop) (s : State) : (modLoop f s).bridges = s.bridges := rfl
@[simp] theorem modLoop_bells (f : Loop → Loop) (s : State) : (modLoop f s).bells = s.bells := rfl
@[simp] theorem modLoop_phrases (f : Loop → Loop) (s : State) : (modLoop f s).phrases = s.phrases := rfl
@[simp] theorem modLoop_ann (f : Loop → Loop) (s : State) : (modLoop f s).ann = s.ann := rfl
@[simp] theorem modLoop_clock (f : Loop → Loop) (s : State) : (modLoop f s).clock = s.clock := rfl
@[simp] theorem modLoop_prog (f : Loop → Loop) (s : State) : (modLoop f s).prog = s.prog := rfl
@[simp] theorem modLoop_link (f : Loop → Loop) (s : State) : (modLoop f s).link = s.link := rfl
@[simp] theorem modLoop_field (f : Loop → Loop) (s : State) : (modLoop f s).field = s.field := rfl

@[simp] theorem modFire_pending (f : Fire → Fire) (s : State) : (modFire f s).pending = s.pending := rfl
@[simp] theorem modFire_time (f : Fire → Fire) (s : State) : (modFire f s).time = s.time := rfl
@[simp] theorem modFire_cfg (f : Fire → Fire) (s : State) : (modFire f s).cfg = s.cfg := rfl
@[simp] theorem modFire_store (f : Fire → Fire) (s : State) : (modFire f s).store = s.store := rfl
@[simp] theorem modFire_loop (f : Fire → Fire) (s : State) : (modFire f s).loop = s.loop := rfl
@[simp] theorem modFire_fire (f : Fire → Fire) (s : State) :
    (modFire f s).fire = f s.fire := rfl
@[simp] theorem modFire_shutters (f : Fire → Fire) (s : State) : (modFire f s).shutters = s.shutters := rfl
@[simp] theorem modFire_bridges (f : Fire → Fire) (s : State) : (modFire f s).bridges = s.bridges := rfl
@[simp] theorem modFire_bells (f : Fire → Fire) (s : State) : (modFire f s).bells = s.bells := rfl
@[simp] theorem modFire_phrases (f : Fire → Fire) (s : State) : (modFire f s).phrases = s.phrases := rfl
@[simp] theorem modFire_ann (f : Fire → Fire) (s : State) : (modFire f s).ann = s.ann := rfl
@[simp] theorem modFire_clock (f : Fire → Fire) (s : State) : (modFire f s).clock = s.clock := rfl
@[simp] theorem modFire_prog (f : Fire → Fire) (s : State) : (modFire f s).prog = s.prog := rfl
@[simp] theorem modFire_link (f : Fire → Fire) (s : State) : (modFire f s).link = s.link := rfl
@[simp] theorem modFire_field (f : Fire → Fire) (s : State) : (modFire f s).field = s.field := rfl

@[simp] theorem modShutter_pending (i : Nat) (f : Shutter → Shutter) (s : State) : (modShutter i f s).pending = s.pending := rfl
@[simp] theorem modShutter_time (i : Nat) (f : Shutter → Shutter) (s : State) : (modShutter i f s).time = s.time := rfl
@[simp] theorem modShutter_cfg (i : Nat) (f : Shutter → Shutter) (s : State) : (modShutter i f s).cfg = s.cfg := rfl
@[simp] theorem modShutter_store (i : Nat) (f : Shutter → Shutter) (s : State) : (modShutter i f s).store = s.store := rfl
@[simp] theorem modShutter_loop (i : Nat) (f : Shutter → Shutter) (s : State) : (modShutter i f s).loop = s.loop := rfl
@[simp] theorem modShutter_fire (i : Nat) (f : Shutter → Shutter) (s : State) : (modShutter i f s).fire = s.fire := rfl
@[simp] theorem modShutter_shutters (i : Nat) (f : Shutter → Shutter) (s : State) :
    (modShutter i f s).shutters = s.shutters.put i (f (shutterAt s i)) := rfl
@[simp] theorem modShutter_bridges (i : Nat) (f : Shutter → Shutter) (s : State) : (modShutter i f s).bridges = s.bridges := rfl
@[simp] theorem modShutter_bells (i : Nat) (f : Shutter → Shutter) (s : State) : (modShutter i f s).bells = s.bells := rfl
@[simp] theorem modShutter_phrases (i : Nat) (f : Shutter → Shutter) (s : State) : (modShutter i f s).phrases = s.phrases := rfl
@[simp] theorem modShutter_ann (i : Nat) (f : Shutter → Shutter) (s : State) : (modShutter i f s).ann = s.ann := rfl
@[simp] theorem modShutter_clock (i : Nat) (f : Shutter → Shutter) (s : State) : (modShutter i f s).clock = s.clock := rfl
@[simp] theorem modShutter_prog (i : Nat) (f : Shutter → Shutter) (s : State) : (modShutter i f s).prog = s.prog := rfl
@[simp] theorem modShutter_link (i : Nat) (f : Shutter → Shutter) (s : State) : (modShutter i f s).link = s.link := rfl
@[simp] theorem modShutter_field (i : Nat) (f : Shutter → Shutter) (s : State) : (modShutter i f s).field = s.field := rfl

@[simp] theorem modBridge_pending (b : Nat) (f : Bridge → Bridge) (s : State) : (modBridge b f s).pending = s.pending := rfl
@[simp] theorem modBridge_time (b : Nat) (f : Bridge → Bridge) (s : State) : (modBridge b f s).time = s.time := rfl
@[simp] theorem modBridge_cfg (b : Nat) (f : Bridge → Bridge) (s : State) : (modBridge b f s).cfg = s.cfg := rfl
@[simp] theorem modBridge_store (b : Nat) (f : Bridge → Bridge) (s : State) : (modBridge b f s).store = s.store := rfl
@[simp] theorem modBridge_loop (b : Nat) (f : Bridge → Bridge) (s : State) : (modBridge b f s).loop = s.loop := rfl
@[simp] theorem modBridge_fire (b : Nat) (f : Bridge → Bridge) (s : State) : (modBridge b f s).fire = s.fire := rfl
@[simp] theorem modBridge_shutters (b : Nat) (f : Bridge → Bridge) (s : State) : (modBridge b f s).shutters = s.shutters := rfl
@[simp] theorem modBridge_bridges (b : Nat) (f : Bridge → Bridge) (s : State) :
    (modBridge b f s).bridges = { s.bridges with units := s.bridges.units.put b (f (bridgeAt s b)) } := rfl
@[simp] theorem modBridge_bells (b : Nat) (f : Bridge → Bridge) (s : State) : (modBridge b f s).bells = s.bells := rfl
@[simp] theorem modBridge_phrases (b : Nat) (f : Bridge → Bridge) (s : State) : (modBridge b f s).phrases = s.phrases := rfl
@[simp] theorem modBridge_ann (b : Nat) (f : Bridge → Bridge) (s : State) : (modBridge b f s).ann = s.ann := rfl
@[simp] theorem modBridge_clock (b : Nat) (f : Bridge → Bridge) (s : State) : (modBridge b f s).clock = s.clock := rfl
@[simp] theorem modBridge_prog (b : Nat) (f : Bridge → Bridge) (s : State) : (modBridge b f s).prog = s.prog := rfl
@[simp] theorem modBridge_link (b : Nat) (f : Bridge → Bridge) (s : State) : (modBridge b f s).link = s.link := rfl
@[simp] theorem modBridge_field (b : Nat) (f : Bridge → Bridge) (s : State) : (modBridge b f s).field = s.field := rfl

@[simp] theorem modLine_pending (l : Nat) (f : Line → Line) (s : State) : (modLine l f s).pending = s.pending := rfl
@[simp] theorem modLine_time (l : Nat) (f : Line → Line) (s : State) : (modLine l f s).time = s.time := rfl
@[simp] theorem modLine_cfg (l : Nat) (f : Line → Line) (s : State) : (modLine l f s).cfg = s.cfg := rfl
@[simp] theorem modLine_store (l : Nat) (f : Line → Line) (s : State) : (modLine l f s).store = s.store := rfl
@[simp] theorem modLine_loop (l : Nat) (f : Line → Line) (s : State) : (modLine l f s).loop = s.loop := rfl
@[simp] theorem modLine_fire (l : Nat) (f : Line → Line) (s : State) : (modLine l f s).fire = s.fire := rfl
@[simp] theorem modLine_shutters (l : Nat) (f : Line → Line) (s : State) : (modLine l f s).shutters = s.shutters := rfl
@[simp] theorem modLine_bridges (l : Nat) (f : Line → Line) (s : State) : (modLine l f s).bridges = s.bridges := rfl
@[simp] theorem modLine_bells (l : Nat) (f : Line → Line) (s : State) :
    (modLine l f s).bells = { s.bells with lines := s.bells.lines.put l (f (lineAt s l)) } := rfl
@[simp] theorem modLine_phrases (l : Nat) (f : Line → Line) (s : State) : (modLine l f s).phrases = s.phrases := rfl
@[simp] theorem modLine_ann (l : Nat) (f : Line → Line) (s : State) : (modLine l f s).ann = s.ann := rfl
@[simp] theorem modLine_clock (l : Nat) (f : Line → Line) (s : State) : (modLine l f s).clock = s.clock := rfl
@[simp] theorem modLine_prog (l : Nat) (f : Line → Line) (s : State) : (modLine l f s).prog = s.prog := rfl
@[simp] theorem modLine_link (l : Nat) (f : Line → Line) (s : State) : (modLine l f s).link = s.link := rfl
@[simp] theorem modLine_field (l : Nat) (f : Line → Line) (s : State) : (modLine l f s).field = s.field := rfl

@[simp] theorem modLamp_pending (n : Nat) (f : Lamp → Lamp) (s : State) : (modLamp n f s).pending = s.pending := rfl
@[simp] theorem modLamp_time (n : Nat) (f : Lamp → Lamp) (s : State) : (modLamp n f s).time = s.time := rfl
@[simp] theorem modLamp_cfg (n : Nat) (f : Lamp → Lamp) (s : State) : (modLamp n f s).cfg = s.cfg := rfl
@[simp] theorem modLamp_store (n : Nat) (f : Lamp → Lamp) (s : State) : (modLamp n f s).store = s.store := rfl
@[simp] theorem modLamp_loop (n : Nat) (f : Lamp → Lamp) (s : State) : (modLamp n f s).loop = s.loop := rfl
@[simp] theorem modLamp_fire (n : Nat) (f : Lamp → Lamp) (s : State) : (modLamp n f s).fire = s.fire := rfl
@[simp] theorem modLamp_shutters (n : Nat) (f : Lamp → Lamp) (s : State) : (modLamp n f s).shutters = s.shutters := rfl
@[simp] theorem modLamp_bridges (n : Nat) (f : Lamp → Lamp) (s : State) : (modLamp n f s).bridges = s.bridges := rfl
@[simp] theorem modLamp_bells (n : Nat) (f : Lamp → Lamp) (s : State) :
    (modLamp n f s).bells = { s.bells with lamps := s.bells.lamps.put n (f (s.bells.lamps.get n)) } := rfl
@[simp] theorem modLamp_phrases (n : Nat) (f : Lamp → Lamp) (s : State) : (modLamp n f s).phrases = s.phrases := rfl
@[simp] theorem modLamp_ann (n : Nat) (f : Lamp → Lamp) (s : State) : (modLamp n f s).ann = s.ann := rfl
@[simp] theorem modLamp_clock (n : Nat) (f : Lamp → Lamp) (s : State) : (modLamp n f s).clock = s.clock := rfl
@[simp] theorem modLamp_prog (n : Nat) (f : Lamp → Lamp) (s : State) : (modLamp n f s).prog = s.prog := rfl
@[simp] theorem modLamp_link (n : Nat) (f : Lamp → Lamp) (s : State) : (modLamp n f s).link = s.link := rfl
@[simp] theorem modLamp_field (n : Nat) (f : Lamp → Lamp) (s : State) : (modLamp n f s).field = s.field := rfl

@[simp] theorem modStore_pending (f : PhraseStore → PhraseStore) (s : State) : (modStore f s).pending = s.pending := rfl
@[simp] theorem modStore_time (f : PhraseStore → PhraseStore) (s : State) : (modStore f s).time = s.time := rfl
@[simp] theorem modStore_cfg (f : PhraseStore → PhraseStore) (s : State) : (modStore f s).cfg = s.cfg := rfl
@[simp] theorem modStore_store (f : PhraseStore → PhraseStore) (s : State) : (modStore f s).store = s.store := rfl
@[simp] theorem modStore_loop (f : PhraseStore → PhraseStore) (s : State) : (modStore f s).loop = s.loop := rfl
@[simp] theorem modStore_fire (f : PhraseStore → PhraseStore) (s : State) : (modStore f s).fire = s.fire := rfl
@[simp] theorem modStore_shutters (f : PhraseStore → PhraseStore) (s : State) : (modStore f s).shutters = s.shutters := rfl
@[simp] theorem modStore_bridges (f : PhraseStore → PhraseStore) (s : State) : (modStore f s).bridges = s.bridges := rfl
@[simp] theorem modStore_bells (f : PhraseStore → PhraseStore) (s : State) : (modStore f s).bells = s.bells := rfl
@[simp] theorem modStore_phrases (f : PhraseStore → PhraseStore) (s : State) :
    (modStore f s).phrases = f s.phrases := rfl
@[simp] theorem modStore_ann (f : PhraseStore → PhraseStore) (s : State) : (modStore f s).ann = s.ann := rfl
@[simp] theorem modStore_clock (f : PhraseStore → PhraseStore) (s : State) : (modStore f s).clock = s.clock := rfl
@[simp] theorem modStore_prog (f : PhraseStore → PhraseStore) (s : State) : (modStore f s).prog = s.prog := rfl
@[simp] theorem modStore_link (f : PhraseStore → PhraseStore) (s : State) : (modStore f s).link = s.link := rfl
@[simp] theorem modStore_field (f : PhraseStore → PhraseStore) (s : State) : (modStore f s).field = s.field := rfl

@[simp] theorem modAnn_pending (f : Announcer → Announcer) (s : State) : (modAnn f s).pending = s.pending := rfl
@[simp] theorem modAnn_time (f : Announcer → Announcer) (s : State) : (modAnn f s).time = s.time := rfl
@[simp] theorem modAnn_cfg (f : Announcer → Announcer) (s : State) : (modAnn f s).cfg = s.cfg := rfl
@[simp] theorem modAnn_store (f : Announcer → Announcer) (s : State) : (modAnn f s).store = s.store := rfl
@[simp] theorem modAnn_loop (f : Announcer → Announcer) (s : State) : (modAnn f s).loop = s.loop := rfl
@[simp] theorem modAnn_fire (f : Announcer → Announcer) (s : State) : (modAnn f s).fire = s.fire := rfl
@[simp] theorem modAnn_shutters (f : Announcer → Announcer) (s : State) : (modAnn f s).shutters = s.shutters := rfl
@[simp] theorem modAnn_bridges (f : Announcer → Announcer) (s : State) : (modAnn f s).bridges = s.bridges := rfl
@[simp] theorem modAnn_bells (f : Announcer → Announcer) (s : State) : (modAnn f s).bells = s.bells := rfl
@[simp] theorem modAnn_phrases (f : Announcer → Announcer) (s : State) : (modAnn f s).phrases = s.phrases := rfl
@[simp] theorem modAnn_ann (f : Announcer → Announcer) (s : State) :
    (modAnn f s).ann = f s.ann := rfl
@[simp] theorem modAnn_clock (f : Announcer → Announcer) (s : State) : (modAnn f s).clock = s.clock := rfl
@[simp] theorem modAnn_prog (f : Announcer → Announcer) (s : State) : (modAnn f s).prog = s.prog := rfl
@[simp] theorem modAnn_link (f : Announcer → Announcer) (s : State) : (modAnn f s).link = s.link := rfl
@[simp] theorem modAnn_field (f : Announcer → Announcer) (s : State) : (modAnn f s).field = s.field := rfl

@[simp] theorem modProg_pending (f : Programme → Programme) (s : State) : (modProg f s).pending = s.pending := rfl
@[simp] theorem modProg_time (f : Programme → Programme) (s : State) : (modProg f s).time = s.time := rfl
@[simp] theorem modProg_cfg (f : Programme → Programme) (s : State) : (modProg f s).cfg = s.cfg := rfl
@[simp] theorem modProg_store (f : Programme → Programme) (s : State) : (modProg f s).store = s.store := rfl
@[simp] theorem modProg_loop (f : Programme → Programme) (s : State) : (modProg f s).loop = s.loop := rfl
@[simp] theorem modProg_fire (f : Programme → Programme) (s : State) : (modProg f s).fire = s.fire := rfl
@[simp] theorem modProg_shutters (f : Programme → Programme) (s : State) : (modProg f s).shutters = s.shutters := rfl
@[simp] theorem modProg_bridges (f : Programme → Programme) (s : State) : (modProg f s).bridges = s.bridges := rfl
@[simp] theorem modProg_bells (f : Programme → Programme) (s : State) : (modProg f s).bells = s.bells := rfl
@[simp] theorem modProg_phrases (f : Programme → Programme) (s : State) : (modProg f s).phrases = s.phrases := rfl
@[simp] theorem modProg_ann (f : Programme → Programme) (s : State) : (modProg f s).ann = s.ann := rfl
@[simp] theorem modProg_clock (f : Programme → Programme) (s : State) : (modProg f s).clock = s.clock := rfl
@[simp] theorem modProg_prog (f : Programme → Programme) (s : State) :
    (modProg f s).prog = f s.prog := rfl
@[simp] theorem modProg_link (f : Programme → Programme) (s : State) : (modProg f s).link = s.link := rfl
@[simp] theorem modProg_field (f : Programme → Programme) (s : State) : (modProg f s).field = s.field := rfl

@[simp] theorem modLink_pending (f : Link → Link) (s : State) : (modLink f s).pending = s.pending := rfl
@[simp] theorem modLink_time (f : Link → Link) (s : State) : (modLink f s).time = s.time := rfl
@[simp] theorem modLink_cfg (f : Link → Link) (s : State) : (modLink f s).cfg = s.cfg := rfl
@[simp] theorem modLink_store (f : Link → Link) (s : State) : (modLink f s).store = s.store := rfl
@[simp] theorem modLink_loop (f : Link → Link) (s : State) : (modLink f s).loop = s.loop := rfl
@[simp] theorem modLink_fire (f : Link → Link) (s : State) : (modLink f s).fire = s.fire := rfl
@[simp] theorem modLink_shutters (f : Link → Link) (s : State) : (modLink f s).shutters = s.shutters := rfl
@[simp] theorem modLink_bridges (f : Link → Link) (s : State) : (modLink f s).bridges = s.bridges := rfl
@[simp] theorem modLink_bells (f : Link → Link) (s : State) : (modLink f s).bells = s.bells := rfl
@[simp] theorem modLink_phrases (f : Link → Link) (s : State) : (modLink f s).phrases = s.phrases := rfl
@[simp] theorem modLink_ann (f : Link → Link) (s : State) : (modLink f s).ann = s.ann := rfl
@[simp] theorem modLink_clock (f : Link → Link) (s : State) : (modLink f s).clock = s.clock := rfl
@[simp] theorem modLink_prog (f : Link → Link) (s : State) : (modLink f s).prog = s.prog := rfl
@[simp] theorem modLink_link (f : Link → Link) (s : State) :
    (modLink f s).link = f s.link := rfl
@[simp] theorem modLink_field (f : Link → Link) (s : State) : (modLink f s).field = s.field := rfl

@[simp] theorem modField_pending (f : Field → Field) (s : State) : (modField f s).pending = s.pending := rfl
@[simp] theorem modField_time (f : Field → Field) (s : State) : (modField f s).time = s.time := rfl
@[simp] theorem modField_cfg (f : Field → Field) (s : State) : (modField f s).cfg = s.cfg := rfl
@[simp] theorem modField_store (f : Field → Field) (s : State) : (modField f s).store = s.store := rfl
@[simp] theorem modField_loop (f : Field → Field) (s : State) : (modField f s).loop = s.loop := rfl
@[simp] theorem modField_fire (f : Field → Field) (s : State) : (modField f s).fire = s.fire := rfl
@[simp] theorem modField_shutters (f : Field → Field) (s : State) : (modField f s).shutters = s.shutters := rfl
@[simp] theorem modField_bridges (f : Field → Field) (s : State) : (modField f s).bridges = s.bridges := rfl
@[simp] theorem modField_bells (f : Field → Field) (s : State) : (modField f s).bells = s.bells := rfl
@[simp] theorem modField_phrases (f : Field → Field) (s : State) : (modField f s).phrases = s.phrases := rfl
@[simp] theorem modField_ann (f : Field → Field) (s : State) : (modField f s).ann = s.ann := rfl
@[simp] theorem modField_clock (f : Field → Field) (s : State) : (modField f s).clock = s.clock := rfl
@[simp] theorem modField_prog (f : Field → Field) (s : State) : (modField f s).prog = s.prog := rfl
@[simp] theorem modField_link (f : Field → Field) (s : State) : (modField f s).link = s.link := rfl
@[simp] theorem modField_field (f : Field → Field) (s : State) :
    (modField f s).field = f s.field := rfl

@[simp] theorem writeStore_pending (a : Nat) (bs : List Byte) (s : State) : (writeStore a bs s).pending = s.pending := rfl
@[simp] theorem writeStore_time (a : Nat) (bs : List Byte) (s : State) : (writeStore a bs s).time = s.time := rfl
@[simp] theorem writeStore_cfg (a : Nat) (bs : List Byte) (s : State) : (writeStore a bs s).cfg = s.cfg := rfl
@[simp] theorem writeStore_store (a : Nat) (bs : List Byte) (s : State) :
    (writeStore a bs s).store = writeBytes s.store a bs := rfl
@[simp] theorem writeStore_loop (a : Nat) (bs : List Byte) (s : State) : (writeStore a bs s).loop = s.loop := rfl
@[simp] theorem writeStore_fire (a : Nat) (bs : List Byte) (s : State) : (writeStore a bs s).fire = s.fire := rfl
@[simp] theorem writeStore_shutters (a : Nat) (bs : List Byte) (s : State) : (writeStore a bs s).shutters = s.shutters := rfl
@[simp] theorem writeStore_bridges (a : Nat) (bs : List Byte) (s : State) : (writeStore a bs s).bridges = s.bridges := rfl
@[simp] theorem writeStore_bells (a : Nat) (bs : List Byte) (s : State) : (writeStore a bs s).bells = s.bells := rfl
@[simp] theorem writeStore_phrases (a : Nat) (bs : List Byte) (s : State) : (writeStore a bs s).phrases = s.phrases := rfl
@[simp] theorem writeStore_ann (a : Nat) (bs : List Byte) (s : State) : (writeStore a bs s).ann = s.ann := rfl
@[simp] theorem writeStore_clock (a : Nat) (bs : List Byte) (s : State) : (writeStore a bs s).clock = s.clock := rfl
@[simp] theorem writeStore_prog (a : Nat) (bs : List Byte) (s : State) : (writeStore a bs s).prog = s.prog := rfl
@[simp] theorem writeStore_link (a : Nat) (bs : List Byte) (s : State) : (writeStore a bs s).link = s.link := rfl
@[simp] theorem writeStore_field (a : Nat) (bs : List Byte) (s : State) : (writeStore a bs s).field = s.field := rfl

@[simp] theorem channelAt_modChannel_self (ch : Chan) (f : Channel → Channel) (s : State) :
    channelAt (modChannel ch f s) ch = f (channelAt s ch) := by cases ch <;> rfl
@[simp] theorem modChannel_pending (ch : Chan) (f : Channel → Channel) (s : State) :
    (modChannel ch f s).pending = s.pending := by cases ch <;> rfl
@[simp] theorem modChannel_time (ch : Chan) (f : Channel → Channel) (s : State) :
    (modChannel ch f s).time = s.time := by cases ch <;> rfl
@[simp] theorem modChannel_cfg (ch : Chan) (f : Channel → Channel) (s : State) :
    (modChannel ch f s).cfg = s.cfg := by cases ch <;> rfl
@[simp] theorem modChannel_store (ch : Chan) (f : Channel → Channel) (s : State) :
    (modChannel ch f s).store = s.store := by cases ch <;> rfl
@[simp] theorem modChannel_loop (ch : Chan) (f : Channel → Channel) (s : State) :
    (modChannel ch f s).loop = s.loop := by cases ch <;> rfl
@[simp] theorem modChannel_fire (ch : Chan) (f : Channel → Channel) (s : State) :
    (modChannel ch f s).fire = s.fire := by cases ch <;> rfl
@[simp] theorem modChannel_shutters (ch : Chan) (f : Channel → Channel) (s : State) :
    (modChannel ch f s).shutters = s.shutters := by cases ch <;> rfl
@[simp] theorem modChannel_bridges (ch : Chan) (f : Channel → Channel) (s : State) :
    (modChannel ch f s).bridges = s.bridges := by cases ch <;> rfl
@[simp] theorem modChannel_bells (ch : Chan) (f : Channel → Channel) (s : State) :
    (modChannel ch f s).bells = s.bells := by cases ch <;> rfl
@[simp] theorem modChannel_phrases (ch : Chan) (f : Channel → Channel) (s : State) :
    (modChannel ch f s).phrases = s.phrases := by cases ch <;> rfl
@[simp] theorem modChannel_clock (ch : Chan) (f : Channel → Channel) (s : State) :
    (modChannel ch f s).clock = s.clock := by cases ch <;> rfl
@[simp] theorem modChannel_prog (ch : Chan) (f : Channel → Channel) (s : State) :
    (modChannel ch f s).prog = s.prog := by cases ch <;> rfl
@[simp] theorem modChannel_link (ch : Chan) (f : Channel → Channel) (s : State) :
    (modChannel ch f s).link = s.link := by cases ch <;> rfl
@[simp] theorem modChannel_field (ch : Chan) (f : Channel → Channel) (s : State) :
    (modChannel ch f s).field = s.field := by cases ch <;> rfl
@[simp] theorem modChannel_same (ch : Chan) (f : Channel → Channel) (s : State) :
    channelAt (modChannel ch f s) ch = f (channelAt s ch) := by cases ch <;> rfl

@[simp] theorem queueEvent_pending (k : EventKind) (x : Option Nat) (d : Nat) (s : State) :
    (queueEvent k x d s).pending = s.pending := by unfold queueEvent; split <;> rfl
@[simp] theorem queueEvent_time (k : EventKind) (x : Option Nat) (d : Nat) (s : State) :
    (queueEvent k x d s).time = s.time := by unfold queueEvent; split <;> rfl
@[simp] theorem queueEvent_cfg (k : EventKind) (x : Option Nat) (d : Nat) (s : State) :
    (queueEvent k x d s).cfg = s.cfg := by unfold queueEvent; split <;> rfl
@[simp] theorem queueEvent_store (k : EventKind) (x : Option Nat) (d : Nat) (s : State) :
    (queueEvent k x d s).store = s.store := by unfold queueEvent; split <;> rfl
@[simp] theorem queueEvent_loop (k : EventKind) (x : Option Nat) (d : Nat) (s : State) :
    (queueEvent k x d s).loop = s.loop := by unfold queueEvent; split <;> rfl
@[simp] theorem queueEvent_fire (k : EventKind) (x : Option Nat) (d : Nat) (s : State) :
    (queueEvent k x d s).fire = s.fire := by unfold queueEvent; split <;> rfl
@[simp] theorem queueEvent_shutters (k : EventKind) (x : Option Nat) (d : Nat) (s : State) :
    (queueEvent k x d s).shutters = s.shutters := by unfold queueEvent; split <;> rfl
@[simp] theorem queueEvent_bridges (k : EventKind) (x : Option Nat) (d : Nat) (s : State) :
    (queueEvent k x d s).bridges = s.bridges := by unfold queueEvent; split <;> rfl
@[simp] theorem queueEvent_bells (k : EventKind) (x : Option Nat) (d : Nat) (s : State) :
    (queueEvent k x d s).bells = s.bells := by unfold queueEvent; split <;> rfl
@[simp] theorem queueEvent_phrases (k : EventKind) (x : Option Nat) (d : Nat) (s : State) :
    (queueEvent k x d s).phrases = s.phrases := by unfold queueEvent; split <;> rfl
@[simp] theorem queueEvent_ann (k : EventKind) (x : Option Nat) (d : Nat) (s : State) :
    (queueEvent k x d s).ann = s.ann := by unfold queueEvent; split <;> rfl
@[simp] theorem queueEvent_clock (k : EventKind) (x : Option Nat) (d : Nat) (s : State) :
    (queueEvent k x d s).clock = s.clock := by unfold queueEvent; split <;> rfl
@[simp] theorem queueEvent_prog (k : EventKind) (x : Option Nat) (d : Nat) (s : State) :
    (queueEvent k x d s).prog = s.prog := by unfold queueEvent; split <;> rfl
@[simp] theorem queueEvent_field (k : EventKind) (x : Option Nat) (d : Nat) (s : State) :
    (queueEvent k x d s).field = s.field := by unfold queueEvent; split <;> rfl

end Sys2Proof.Machine
end

