-- ==== Sys2Proof/Laws/Frame.lean ====
section
/-! SUPPORT. What each shared operation may change, said once: outside the parts named, the state it answers is the one it
was given. -/

namespace Sys2Proof.Laws

open Sys2Proof.Machine Sys2Proof.Safety

theorem OnlyChanges.refl (ps : List Part) (s : State) : OnlyChanges ps s s := by
  intro p; right; cases p <;> simp [Part.same]

theorem OnlyChanges.trans {ps : List Part} {s t u : State} (h : OnlyChanges ps s t) (k : OnlyChanges ps t u) :
    OnlyChanges ps s u := by
  intro p
  rcases h p with h | h
  · exact .inl h
  · rcases k p with k | k
    · exact .inl k
    · right
      cases p <;> simp_all [Part.same]

theorem OnlyChanges.mono {ps qs : List Part} {s t : State} (h : OnlyChanges ps s t) (k : ∀ p ∈ ps, p ∈ qs) :
    OnlyChanges qs s t := fun p => (h p).imp (k p) id

/-- An update that changes nothing outside `ps` may be left out of a frame over `ps`. -/
theorem OnlyChanges.iff {ps : List Part} {s t u : State} (h : OnlyChanges ps t u) :
    OnlyChanges ps s u ↔ OnlyChanges ps s t := by
  constructor
  · intro k p
    rcases h p with h | h
    · exact .inl h
    · rcases k p with k | k
      · exact .inl k
      · right
        cases p <;> simp_all [Part.same]
  · exact fun k => OnlyChanges.trans k h

@[simp] theorem OnlyChanges.self {ps : List Part} {s : State} : OnlyChanges ps s s ↔ True :=
  iff_true_intro (OnlyChanges.refl ps s)

variable {ps : List Part} {s u : State}

@[simp] theorem OnlyChanges.ite {c : Prop} [Decidable c] {t : State} :
    OnlyChanges ps s (if c then t else u) ↔ if c then OnlyChanges ps s t else OnlyChanges ps s u := by
  split <;> rfl

@[simp] theorem OnlyChanges.ite_fst {c : Prop} [Decidable c] {α : Type} {x y : State × α} :
    OnlyChanges ps s (if c then x else y).1 ↔ if c then OnlyChanges ps s x.1 else OnlyChanges ps s y.1 := by
  split <;> rfl

@[simp] theorem set_cfg_only (hC : Part.settings ∈ ps) : OnlyChanges ps s { u with cfg := x } ↔ OnlyChanges ps s u := by
  apply OnlyChanges.iff; intro p; cases p <;> simp_all [Part.same]

@[simp] theorem set_loop_only (hL : Part.loop ∈ ps) : OnlyChanges ps s { u with loop := x } ↔ OnlyChanges ps s u := by
  apply OnlyChanges.iff; intro p; cases p <;> simp_all [Part.same]

@[simp] theorem set_fire_only (hF : Part.fire ∈ ps) : OnlyChanges ps s { u with fire := x } ↔ OnlyChanges ps s u := by
  apply OnlyChanges.iff; intro p; cases p <;> simp_all [Part.same]

@[simp] theorem set_shutters_only (hS : Part.shutters ∈ ps) : OnlyChanges ps s { u with shutters := x } ↔ OnlyChanges ps s u := by
  apply OnlyChanges.iff; intro p; cases p <;> simp_all [Part.same]

@[simp] theorem set_bridges_only (hB : Part.bridges ∈ ps) : OnlyChanges ps s { u with bridges := x } ↔ OnlyChanges ps s u := by
  apply OnlyChanges.iff; intro p; cases p <;> simp_all [Part.same]

@[simp] theorem set_bells_only (hN : Part.bells ∈ ps) : OnlyChanges ps s { u with bells := x } ↔ OnlyChanges ps s u := by
  apply OnlyChanges.iff; intro p; cases p <;> simp_all [Part.same]

@[simp] theorem set_phrases_only (hP : Part.phrases ∈ ps) : OnlyChanges ps s { u with phrases := x } ↔ OnlyChanges ps s u := by
  apply OnlyChanges.iff; intro p; cases p <;> simp_all [Part.same]

@[simp] theorem set_ann_only (hA : Part.announcer ∈ ps) : OnlyChanges ps s { u with ann := x } ↔ OnlyChanges ps s u := by
  apply OnlyChanges.iff; intro p; cases p <;> simp_all [Part.same]

@[simp] theorem set_clock_only (hK : Part.clock ∈ ps) : OnlyChanges ps s { u with clock := x } ↔ OnlyChanges ps s u := by
  apply OnlyChanges.iff; intro p; cases p <;> simp_all [Part.same]

@[simp] theorem set_prog_only (hG : Part.programme ∈ ps) : OnlyChanges ps s { u with prog := x } ↔ OnlyChanges ps s u := by
  apply OnlyChanges.iff; intro p; cases p <;> simp_all [Part.same]

@[simp] theorem set_field_only (hD : Part.field ∈ ps) : OnlyChanges ps s { u with field := x } ↔ OnlyChanges ps s u := by
  apply OnlyChanges.iff; intro p; cases p <;> simp_all [Part.same]

@[simp] theorem set_store_only (hO : Part.store ∈ ps) : OnlyChanges ps s { u with store := x } ↔ OnlyChanges ps s u := by
  apply OnlyChanges.iff; intro p; cases p <;> simp_all [Part.same]

@[simp] theorem set_time_only (hT : Part.clockwork ∈ ps) : OnlyChanges ps s { u with time := { u.time with now := a, scanDue := b, convDue := c, samples := d } } ↔ OnlyChanges ps s u := by
  apply OnlyChanges.iff; intro p; cases p <;> simp_all [Part.same]

@[simp] theorem stamp_only  : OnlyChanges ps s (stamp u) ↔ OnlyChanges ps s u := by
  apply OnlyChanges.iff; intro p; cases p <;> simp_all [Part.same]

@[simp] theorem advanceTo_only (hT : Part.clockwork ∈ ps) : OnlyChanges ps s (advanceTo n u) ↔ OnlyChanges ps s u := by
  apply OnlyChanges.iff; intro p; cases p <;> simp_all [Part.same]

@[simp] theorem queueEvent_only (hE : Part.events ∈ ps) : OnlyChanges ps s (queueEvent k x d u) ↔ OnlyChanges ps s u := by
  unfold queueEvent; split <;> (apply OnlyChanges.iff; intro p; cases p <;> simp_all [Part.same])

@[simp] theorem modLoop_only (hL : Part.loop ∈ ps) : OnlyChanges ps s (modLoop f u) ↔ OnlyChanges ps s u := by
  apply OnlyChanges.iff; intro p; cases p <;> simp_all [Part.same]

@[simp] theorem modFire_only (hF : Part.fire ∈ ps) : OnlyChanges ps s (modFire f u) ↔ OnlyChanges ps s u := by
  apply OnlyChanges.iff; intro p; cases p <;> simp_all [Part.same]

@[simp] theorem modShutter_only (hS : Part.shutters ∈ ps) : OnlyChanges ps s (modShutter i f u) ↔ OnlyChanges ps s u := by
  apply OnlyChanges.iff; intro p; cases p <;> simp_all [Part.same]

@[simp] theorem modBridge_only (hB : Part.bridges ∈ ps) : OnlyChanges ps s (modBridge i f u) ↔ OnlyChanges ps s u := by
  apply OnlyChanges.iff; intro p; cases p <;> simp_all [Part.same]

@[simp] theorem modLine_only (hN : Part.bells ∈ ps) : OnlyChanges ps s (modLine i f u) ↔ OnlyChanges ps s u := by
  apply OnlyChanges.iff; intro p; cases p <;> simp_all [Part.same]

@[simp] theorem modLamp_only (hN : Part.bells ∈ ps) : OnlyChanges ps s (modLamp i f u) ↔ OnlyChanges ps s u := by
  apply OnlyChanges.iff; intro p; cases p <;> simp_all [Part.same]

@[simp] theorem modStore_only (hP : Part.phrases ∈ ps) : OnlyChanges ps s (modStore f u) ↔ OnlyChanges ps s u := by
  apply OnlyChanges.iff; intro p; cases p <;> simp_all [Part.same]

@[simp] theorem modAnn_only (hA : Part.announcer ∈ ps) : OnlyChanges ps s (modAnn f u) ↔ OnlyChanges ps s u := by
  apply OnlyChanges.iff; intro p; cases p <;> simp_all [Part.same]

@[simp] theorem modProg_only (hG : Part.programme ∈ ps) : OnlyChanges ps s (modProg f u) ↔ OnlyChanges ps s u := by
  apply OnlyChanges.iff; intro p; cases p <;> simp_all [Part.same]

@[simp] theorem modField_only (hD : Part.field ∈ ps) : OnlyChanges ps s (modField f u) ↔ OnlyChanges ps s u := by
  apply OnlyChanges.iff; intro p; cases p <;> simp_all [Part.same]

@[simp] theorem writeStore_only (hO : Part.store ∈ ps) : OnlyChanges ps s (writeStore a b u) ↔ OnlyChanges ps s u := by
  apply OnlyChanges.iff; intro p; cases p <;> simp_all [Part.same]

@[simp] theorem modChannel_only (hA : Part.announcer ∈ ps) : OnlyChanges ps s (modChannel i f u) ↔ OnlyChanges ps s u := by
  apply OnlyChanges.iff; intro p; cases p <;> simp_all [Part.same]

/-- A fold that carries a state with what it has found changes what its body may change. -/
theorem foldl_only {α β : Type} (f : State × β → α → State × β)
    (h : ∀ r x, OnlyChanges ps s (f r x).1 ↔ OnlyChanges ps s r.1) (xs : List α) (r : State × β) :
    OnlyChanges ps s (xs.foldl f r).1 ↔ OnlyChanges ps s r.1 := by
  induction xs generalizing r with
  | nil => rfl
  | cons x xs ih => rw [List.foldl_cons, ih, h]

/-- A loop over a list changes what its body may change. -/
theorem forEach_only {α : Type} (xs : List α) (f : α → State → State)
    (h : ∀ x t, OnlyChanges ps s (f x t) ↔ OnlyChanges ps s t) :
    OnlyChanges ps s (forEach xs f u) ↔ OnlyChanges ps s u := by
  unfold forEach
  induction xs generalizing u with
  | nil => rfl
  | cons x xs ih => simp only [List.foldl_cons]; rw [ih, h]

@[simp] theorem setDemand_only (hS : Part.shutters ∈ ps) : OnlyChanges ps s (setDemand i d u) ↔ OnlyChanges ps s u := by
  simp [setDemand, *]

@[simp] theorem setStatus_only (hS : Part.shutters ∈ ps) : OnlyChanges ps s (setStatus i st u) ↔ OnlyChanges ps s u := by
  simp [setStatus, *]

@[simp] theorem setPurpose_only (hB : Part.bridges ∈ ps) : OnlyChanges ps s (setPurpose b p u) ↔ OnlyChanges ps s u := by
  simp [setPurpose, *]

@[simp] theorem toBridge_only (hS : Part.shutters ∈ ps) (hB : Part.bridges ∈ ps) : OnlyChanges ps s (toBridge i u) ↔ OnlyChanges ps s u := by
  unfold toBridge; (repeat' split) <;> simp [*]

@[simp] theorem holdByLoop_only (hS : Part.shutters ∈ ps) (hE : Part.events ∈ ps) : OnlyChanges ps s (holdByLoop i k u) ↔ OnlyChanges ps s u := by
  simp [holdByLoop, *]

@[simp] theorem offerBridge_only (hS : Part.shutters ∈ ps) (hB : Part.bridges ∈ ps) (hE : Part.events ∈ ps) : OnlyChanges ps s (offerBridge i u) ↔ OnlyChanges ps s u := by
  unfold offerBridge; (repeat' split) <;> simp [*]

@[simp] theorem reexamine_only (hS : Part.shutters ∈ ps) (hB : Part.bridges ∈ ps) (hE : Part.events ∈ ps) : OnlyChanges ps s (reexamine u) ↔ OnlyChanges ps s u := by
  unfold reexamine; apply forEach_only; intro x t; (repeat' split) <;> simp [*]

@[simp] theorem enterDwell_only (hB : Part.bridges ∈ ps) : OnlyChanges ps s (enterDwell b tr u) ↔ OnlyChanges ps s u := by
  simp [enterDwell, *]

@[simp] theorem freeBridge_only (hB : Part.bridges ∈ ps) (hE : Part.events ∈ ps) : OnlyChanges ps s (freeBridge b u) ↔ OnlyChanges ps s u := by
  unfold freeBridge; (repeat' split) <;> simp [*]

@[simp] theorem stopDrive_only (hS : Part.shutters ∈ ps) (hB : Part.bridges ∈ ps) : OnlyChanges ps s (stopDrive i u) ↔ OnlyChanges ps s u := by
  unfold stopDrive; (repeat' split) <;> simp [*]

@[simp] theorem abandonCheck_only (hB : Part.bridges ∈ ps) : OnlyChanges ps s (abandonCheck i u) ↔ OnlyChanges ps s u := by
  unfold abandonCheck; (repeat' split) <;> simp [*]

@[simp] theorem endHold_only (hB : Part.bridges ∈ ps) (hE : Part.events ∈ ps) : OnlyChanges ps s (endHold i u) ↔ OnlyChanges ps s u := by
  unfold endHold; (repeat' split) <;> simp [*]

@[simp] theorem dropDemand_only (hS : Part.shutters ∈ ps) (hB : Part.bridges ∈ ps) (hE : Part.events ∈ ps) : OnlyChanges ps s (dropDemand i u) ↔ OnlyChanges ps s u := by
  unfold dropDemand; (repeat' split) <;> simp [*]

@[simp] theorem cancelDemand_only (hS : Part.shutters ∈ ps) (hB : Part.bridges ∈ ps) (hE : Part.events ∈ ps) : OnlyChanges ps s (cancelDemand i u) ↔ OnlyChanges ps s u := by
  unfold cancelDemand; (repeat' split) <;> simp [*]

@[simp] theorem faultEndsDemand_only (hS : Part.shutters ∈ ps) (hB : Part.bridges ∈ ps) (hE : Part.events ∈ ps) : OnlyChanges ps s (faultEndsDemand i u) ↔ OnlyChanges ps s u := by
  unfold faultEndsDemand; (repeat' split) <;> simp [*]

@[simp] theorem recordFault_only (hS : Part.shutters ∈ ps) (hB : Part.bridges ∈ ps) (hE : Part.events ∈ ps) : OnlyChanges ps s (recordFault i c u) ↔ OnlyChanges ps s u := by
  simp [recordFault, *]

@[simp] theorem endImpossible_only (hS : Part.shutters ∈ ps) (hE : Part.events ∈ ps) : OnlyChanges ps s (endImpossible i c u) ↔ OnlyChanges ps s u := by
  unfold endImpossible; (repeat' split) <;> simp [*]

@[simp] theorem travelFault_only (hS : Part.shutters ∈ ps) (hB : Part.bridges ∈ ps) (hE : Part.events ∈ ps) : OnlyChanges ps s (travelFault i c u) ↔ OnlyChanges ps s u := by
  simp [travelFault, *]

@[simp] theorem endReached_only (hS : Part.shutters ∈ ps) (hE : Part.events ∈ ps) : OnlyChanges ps s (endReached i u) ↔ OnlyChanges ps s u := by
  unfold endReached; (repeat' split) <;> simp [*]

@[simp] theorem recoveredOpen_only (hS : Part.shutters ∈ ps) (hB : Part.bridges ∈ ps) (hE : Part.events ∈ ps) : OnlyChanges ps s (recoveredOpen i u) ↔ OnlyChanges ps s u := by
  unfold recoveredOpen; (repeat' split) <;> simp [*]

@[simp] theorem pauseDrive_only (hS : Part.shutters ∈ ps) (hB : Part.bridges ∈ ps) : OnlyChanges ps s (pauseDrive i n u) ↔ OnlyChanges ps s u := by
  unfold pauseDrive; (try dsimp only); (repeat' split) <;> simp [*]

@[simp] theorem obstruct_only (hS : Part.shutters ∈ ps) (hB : Part.bridges ∈ ps) (hE : Part.events ∈ ps) : OnlyChanges ps s (obstruct i c u) ↔ OnlyChanges ps s u := by
  unfold obstruct; (repeat' split) <;> simp [*]

@[simp] theorem raisingStall_only (hS : Part.shutters ∈ ps) (hB : Part.bridges ∈ ps) (hE : Part.events ∈ ps) : OnlyChanges ps s (raisingStall i u) ↔ OnlyChanges ps s u := by
  simp [raisingStall, *]

@[simp] theorem startDrive_only (hS : Part.shutters ∈ ps) (hB : Part.bridges ∈ ps) (hE : Part.events ∈ ps) : OnlyChanges ps s (startDrive i r st u) ↔ OnlyChanges ps s u := by
  unfold startDrive; (repeat' split) <;> simp [*]

@[simp] theorem driveTo_only (hS : Part.shutters ∈ ps) (hB : Part.bridges ∈ ps) (hE : Part.events ∈ ps) : OnlyChanges ps s (driveTo i u) ↔ OnlyChanges ps s u := by
  unfold driveTo; (repeat' split) <;> simp [*]

@[simp] theorem dwellEnd_only (hS : Part.shutters ∈ ps) (hB : Part.bridges ∈ ps) (hE : Part.events ∈ ps) : OnlyChanges ps s (dwellEnd b u) ↔ OnlyChanges ps s u := by
  unfold dwellEnd; (repeat' split) <;> simp [*]

@[simp] theorem putDemand_only (hS : Part.shutters ∈ ps) : OnlyChanges ps s (putDemand i d c g st u) ↔ OnlyChanges ps s u := by
  simp [putDemand, *]

@[simp] theorem replaceDemand_only (hS : Part.shutters ∈ ps) (hB : Part.bridges ∈ ps) (hE : Part.events ∈ ps) : OnlyChanges ps s (replaceDemand i d c g old u) ↔ OnlyChanges ps s u := by
  unfold replaceDemand; (repeat' split) <;> simp [*]

@[simp] theorem placeDemand_only (hS : Part.shutters ∈ ps) (hB : Part.bridges ∈ ps) (hE : Part.events ∈ ps) : OnlyChanges ps s (placeDemand i d c g u).1 ↔ OnlyChanges ps s u := by
  unfold placeDemand; (repeat' split) <;> simp [*]

@[simp] theorem offerDemand_only (hS : Part.shutters ∈ ps) (hB : Part.bridges ∈ ps) (hE : Part.events ∈ ps) : OnlyChanges ps s (offerDemand i d c u).1 ↔ OnlyChanges ps s u := by
  simp [offerDemand, *]

@[simp] theorem offerAll_only (hS : Part.shutters ∈ ps) (hB : Part.bridges ∈ ps) (hE : Part.events ∈ ps) : OnlyChanges ps s (offerAll ids d c u).1 ↔ OnlyChanges ps s u := by
  unfold offerAll
  apply foldl_only
  intro r x
  have hx := offerDemand_only (ps := ps) (s := s) (u := r.1) (i := x) (d := d) (c := c) hS hB hE
  rcases e : offerDemand x d c r.1 with ⟨t, k⟩
  rw [e] at hx
  cases k <;> exact hx

@[simp] theorem beginCheck_only (hB : Part.bridges ∈ ps) : OnlyChanges ps s (beginCheck b i p u) ↔ OnlyChanges ps s u := by
  simp [beginCheck, *]

@[simp] theorem grant_only (hS : Part.shutters ∈ ps) (hB : Part.bridges ∈ ps) : OnlyChanges ps s (grant i b u) ↔ OnlyChanges ps s u := by
  simp [grant, *]

@[simp] theorem serveQueue_only (hS : Part.shutters ∈ ps) (hB : Part.bridges ∈ ps) : OnlyChanges ps s (serveQueue n u) ↔ OnlyChanges ps s u := by
  induction n generalizing u with
  | zero => rfl
  | succ n ih =>
    unfold serveQueue
    (repeat' split) <;> simp [*]

@[simp] theorem startSweep_only (hB : Part.bridges ∈ ps) : OnlyChanges ps s (startSweep u) ↔ OnlyChanges ps s u := by
  unfold startSweep; (repeat' split) <;> simp [*]

@[simp] theorem serveBridges_only (hS : Part.shutters ∈ ps) (hB : Part.bridges ∈ ps) : OnlyChanges ps s (serveBridges u) ↔ OnlyChanges ps s u := by
  simp [serveBridges, *]

@[simp] theorem offerFire_only (hS : Part.shutters ∈ ps) (hB : Part.bridges ∈ ps) (hE : Part.events ∈ ps) : OnlyChanges ps s (offerFire i u) ↔ OnlyChanges ps s u := by
  unfold offerFire; (repeat' split) <;> simp [*]

@[simp] theorem shuttersLatchSet_only (hS : Part.shutters ∈ ps) (hB : Part.bridges ∈ ps) (hE : Part.events ∈ ps) : OnlyChanges ps s (shuttersLatchSet u) ↔ OnlyChanges ps s u := by
  unfold shuttersLatchSet
  rw [forEach_only, forEach_only]
  · intro x t; simp [*]
  · intro x t; simp [*]

@[simp] theorem shuttersFurtherAlarm_only (hS : Part.shutters ∈ ps) (hB : Part.bridges ∈ ps) (hE : Part.events ∈ ps) : OnlyChanges ps s (shuttersFurtherAlarm u) ↔ OnlyChanges ps s u := by
  unfold shuttersFurtherAlarm; apply forEach_only; intro x t; simp [*]

@[simp] theorem shuttersLatchCleared_only (hS : Part.shutters ∈ ps) (hB : Part.bridges ∈ ps) (hE : Part.events ∈ ps) : OnlyChanges ps s (shuttersLatchCleared u) ↔ OnlyChanges ps s u := by
  unfold shuttersLatchCleared; apply forEach_only; intro x t; simp [*]

@[simp] theorem preTravelResult_only (hS : Part.shutters ∈ ps) (hB : Part.bridges ∈ ps) (hE : Part.events ∈ ps) : OnlyChanges ps s (preTravelResult b i r u) ↔ OnlyChanges ps s u := by
  unfold preTravelResult; (repeat' split) <;> simp [*]

@[simp] theorem checkComplete_only (hS : Part.shutters ∈ ps) (hB : Part.bridges ∈ ps) (hE : Part.events ∈ ps) : OnlyChanges ps s (checkComplete b i p lv u) ↔ OnlyChanges ps s u := by
  unfold checkComplete; (repeat' split) <;> simp [*]

@[simp] theorem settingEnd_only (hS : Part.shutters ∈ ps) (hB : Part.bridges ∈ ps) (hE : Part.events ∈ ps) (hT : Part.clockwork ∈ ps) : OnlyChanges ps s (settingEnd b a c u) ↔ OnlyChanges ps s u := by
  unfold settingEnd; (repeat' split) <;> simp [*]

@[simp] theorem currentReading_only (hS : Part.shutters ∈ ps) (hB : Part.bridges ∈ ps) (hE : Part.events ∈ ps) : OnlyChanges ps s (currentReading b v u) ↔ OnlyChanges ps s u := by
  unfold currentReading; (repeat' split) <;> simp [*]

@[simp] theorem reofferAfterLoss_only (hS : Part.shutters ∈ ps) (hB : Part.bridges ∈ ps) (hE : Part.events ∈ ps) : OnlyChanges ps s (reofferAfterLoss i u) ↔ OnlyChanges ps s u := by
  unfold reofferAfterLoss; (repeat' split) <;> simp [*]

@[simp] theorem bridgeFieldLost_only (hS : Part.shutters ∈ ps) (hB : Part.bridges ∈ ps) (hE : Part.events ∈ ps) : OnlyChanges ps s (bridgeFieldLost b u) ↔ OnlyChanges ps s u := by
  unfold bridgeFieldLost; (repeat' split) <;> simp [*]

@[simp] theorem shuttersFieldLost_only (hS : Part.shutters ∈ ps) (hB : Part.bridges ∈ ps) (hE : Part.events ∈ ps) : OnlyChanges ps s (shuttersFieldLost u) ↔ OnlyChanges ps s u := by
  unfold shuttersFieldLost; apply forEach_only; intro x t; simp [*]

@[simp] theorem enterState_only (hL : Part.loop ∈ ps) (hS : Part.shutters ∈ ps) (hB : Part.bridges ∈ ps) (hE : Part.events ∈ ps) : OnlyChanges ps s (enterState st u) ↔ OnlyChanges ps s u := by
  simp [enterState, *]

@[simp] theorem closeContactor_only (hL : Part.loop ∈ ps) : OnlyChanges ps s (closeContactor n u) ↔ OnlyChanges ps s u := by
  simp [closeContactor, *]

@[simp] theorem loseReference_only (hL : Part.loop ∈ ps) : OnlyChanges ps s (loseReference u) ↔ OnlyChanges ps s u := by
  simp [loseReference, *]

@[simp] theorem loopFault_only (hL : Part.loop ∈ ps) (hS : Part.shutters ∈ ps) (hB : Part.bridges ∈ ps) (hE : Part.events ∈ ps) : OnlyChanges ps s (loopFault c x u) ↔ OnlyChanges ps s u := by
  simp [loopFault, *]

@[simp] theorem enterFoul_only (hL : Part.loop ∈ ps) (hS : Part.shutters ∈ ps) (hB : Part.bridges ∈ ps) (hE : Part.events ∈ ps) : OnlyChanges ps s (enterFoul u) ↔ OnlyChanges ps s u := by
  simp [enterFoul, *]

@[simp] theorem stopVerdict_only (hL : Part.loop ∈ ps) (hS : Part.shutters ∈ ps) (hB : Part.bridges ∈ ps) (hE : Part.events ∈ ps) : OnlyChanges ps s (stopVerdict u) ↔ OnlyChanges ps s u := by
  unfold stopVerdict; (repeat' split) <;> simp [*]

@[simp] theorem enterBraking_only (hL : Part.loop ∈ ps) (hS : Part.shutters ∈ ps) (hB : Part.bridges ∈ ps) (hE : Part.events ∈ ps) : OnlyChanges ps s (enterBraking u) ↔ OnlyChanges ps s u := by
  simp [enterBraking, *]

@[simp] theorem checkCommand_only (hL : Part.loop ∈ ps) (hS : Part.shutters ∈ ps) (hB : Part.bridges ∈ ps) (hE : Part.events ∈ ps) : OnlyChanges ps s (checkCommand u) ↔ OnlyChanges ps s u := by
  unfold checkCommand; (repeat' split) <;> simp [*]

@[simp] theorem checkCreep_only (hL : Part.loop ∈ ps) (hS : Part.shutters ∈ ps) (hB : Part.bridges ∈ ps) (hE : Part.events ∈ ps) : OnlyChanges ps s (checkCreep u) ↔ OnlyChanges ps s u := by
  unfold checkCreep; (repeat' split) <;> simp [*]

@[simp] theorem enterStopping_only (hL : Part.loop ∈ ps) (hS : Part.shutters ∈ ps) (hB : Part.bridges ∈ ps) (hE : Part.events ∈ ps) : OnlyChanges ps s (enterStopping u) ↔ OnlyChanges ps s u := by
  simp [enterStopping, *]

@[simp] theorem beginCreep_only (hL : Part.loop ∈ ps) (hS : Part.shutters ∈ ps) (hB : Part.bridges ∈ ps) (hE : Part.events ∈ ps) : OnlyChanges ps s (beginCreep u) ↔ OnlyChanges ps s u := by
  unfold beginCreep; (repeat' split) <;> simp [*]

@[simp] theorem completeDrain_only (hL : Part.loop ∈ ps) (hS : Part.shutters ∈ ps) (hB : Part.bridges ∈ ps) (hE : Part.events ∈ ps) : OnlyChanges ps s (completeDrain d u) ↔ OnlyChanges ps s u := by
  unfold completeDrain; (repeat' split) <;> simp [*]

@[simp] theorem checkEmpty_only (hL : Part.loop ∈ ps) (hS : Part.shutters ∈ ps) (hB : Part.bridges ∈ ps) (hE : Part.events ∈ ps) : OnlyChanges ps s (checkEmpty u) ↔ OnlyChanges ps s u := by
  unfold checkEmpty; (repeat' split) <;> simp [*]

@[simp] theorem enterDraining_only (hL : Part.loop ∈ ps) (hS : Part.shutters ∈ ps) (hB : Part.bridges ∈ ps) (hE : Part.events ∈ ps) : OnlyChanges ps s (enterDraining a b u) ↔ OnlyChanges ps s u := by
  simp [enterDraining, *]

@[simp] theorem enterRunning_only (hL : Part.loop ∈ ps) (hS : Part.shutters ∈ ps) (hB : Part.bridges ∈ ps) (hE : Part.events ∈ ps) : OnlyChanges ps s (enterRunning u) ↔ OnlyChanges ps s u := by
  simp [enterRunning, *]

@[simp] theorem lateBoarder_only (hL : Part.loop ∈ ps) : OnlyChanges ps s (lateBoarder u) ↔ OnlyChanges ps s u := by
  unfold lateBoarder; (repeat' split) <;> simp [*]

@[simp] theorem drainPulse_only (hL : Part.loop ∈ ps) (hS : Part.shutters ∈ ps) (hB : Part.bridges ∈ ps) (hE : Part.events ∈ ps) : OnlyChanges ps s (drainPulse u) ↔ OnlyChanges ps s u := by
  unfold drainPulse; (repeat' split) <;> simp [*]

@[simp] theorem takeDrain_only (hL : Part.loop ∈ ps) (hS : Part.shutters ∈ ps) (hB : Part.bridges ∈ ps) (hE : Part.events ∈ ps) : OnlyChanges ps s (takeDrain u).1 ↔ OnlyChanges ps s u := by
  unfold takeDrain; (repeat' split) <;> simp [*]

@[simp] theorem takeStop_only (hL : Part.loop ∈ ps) (hS : Part.shutters ∈ ps) (hB : Part.bridges ∈ ps) (hE : Part.events ∈ ps) : OnlyChanges ps s (takeStop f u) ↔ OnlyChanges ps s u := by
  unfold takeStop; (repeat' split) <;> simp [*]

@[simp] theorem loopLatchSet_only (hL : Part.loop ∈ ps) (hS : Part.shutters ∈ ps) (hB : Part.bridges ∈ ps) (hE : Part.events ∈ ps) : OnlyChanges ps s (loopLatchSet u) ↔ OnlyChanges ps s u := by
  unfold loopLatchSet; (repeat' split) <;> simp [*]

@[simp] theorem advanceWatch_only (hL : Part.loop ∈ ps) (hS : Part.shutters ∈ ps) (hB : Part.bridges ∈ ps) (hE : Part.events ∈ ps) : OnlyChanges ps s (advanceWatch o x u) ↔ OnlyChanges ps s u := by
  unfold advanceWatch; (try dsimp only); (repeat' split) <;> simp [*]

@[simp] theorem sillEdge_only (hL : Part.loop ∈ ps) (hS : Part.shutters ∈ ps) (hB : Part.bridges ∈ ps) (hE : Part.events ∈ ps) : OnlyChanges ps s (sillEdge o x u) ↔ OnlyChanges ps s u := by
  unfold sillEdge; (repeat' split) <;> simp [*]

@[simp] theorem checkDrift_only (hL : Part.loop ∈ ps) (hS : Part.shutters ∈ ps) (hB : Part.bridges ∈ ps) (hE : Part.events ∈ ps) : OnlyChanges ps s (checkDrift u) ↔ OnlyChanges ps s u := by
  simp [checkDrift, *]

@[simp] theorem chargeCar_only (hL : Part.loop ∈ ps) (hS : Part.shutters ∈ ps) (hB : Part.bridges ∈ ps) (hE : Part.events ∈ ps) : OnlyChanges ps s (chargeCar e k o u) ↔ OnlyChanges ps s u := by
  unfold chargeCar; dsimp only; (repeat' split) <;> simp [*]

@[simp] theorem chargeCrossing_only (hL : Part.loop ∈ ps) (hS : Part.shutters ∈ ps) (hB : Part.bridges ∈ ps) (hE : Part.events ∈ ps) : OnlyChanges ps s (chargeCrossing e o x u) ↔ OnlyChanges ps s u := by
  unfold chargeCrossing; (repeat' split) <;> simp [*]

@[simp] theorem setRecogniser_only (hL : Part.loop ∈ ps) : OnlyChanges ps s (setRecogniser o r u) ↔ OnlyChanges ps s u := by
  simp [setRecogniser, *]

@[simp] theorem beamChange_only (hL : Part.loop ∈ ps) (hS : Part.shutters ∈ ps) (hB : Part.bridges ∈ ps) (hE : Part.events ∈ ps) : OnlyChanges ps s (beamChange o ch cl u) ↔ OnlyChanges ps s u := by
  unfold beamChange; dsimp only; (repeat' split) <;> simp [*]

@[simp] theorem geometryChange_only (hC : Part.settings ∈ ps) (hL : Part.loop ∈ ps) (hS : Part.shutters ∈ ps) (hB : Part.bridges ∈ ps) (hE : Part.events ∈ ps) : OnlyChanges ps s (geometryChange g u) ↔ OnlyChanges ps s u := by
  simp [geometryChange, *]

@[simp] theorem checkIntrusion_only (hL : Part.loop ∈ ps) (hS : Part.shutters ∈ ps) (hB : Part.bridges ∈ ps) (hE : Part.events ∈ ps) : OnlyChanges ps s (checkIntrusion i b u) ↔ OnlyChanges ps s u := by
  simp [checkIntrusion, *]

@[simp] theorem limitFault_only (hS : Part.shutters ∈ ps) (hB : Part.bridges ∈ ps) (hE : Part.events ∈ ps) : OnlyChanges ps s (limitFault i b a u) ↔ OnlyChanges ps s u := by
  simp [limitFault, *]

@[simp] theorem pausedAtTarget_only (hS : Part.shutters ∈ ps) (hB : Part.bridges ∈ ps) (hE : Part.events ∈ ps) : OnlyChanges ps s (pausedAtTarget i u) ↔ OnlyChanges ps s u := by
  simp [pausedAtTarget, *]

@[simp] theorem leftClosed_only (hS : Part.shutters ∈ ps) (hB : Part.bridges ∈ ps) (hE : Part.events ∈ ps) : OnlyChanges ps s (leftClosed i b u) ↔ OnlyChanges ps s u := by
  simp [leftClosed, *]

@[simp] theorem limitsAtRest_only (hL : Part.loop ∈ ps) (hS : Part.shutters ∈ ps) (hB : Part.bridges ∈ ps) (hE : Part.events ∈ ps) : OnlyChanges ps s (limitsAtRest i u) ↔ OnlyChanges ps s u := by
  simp [limitsAtRest, *]

@[simp] theorem limitsFirst_only (hL : Part.loop ∈ ps) (hS : Part.shutters ∈ ps) (hB : Part.bridges ∈ ps) (hE : Part.events ∈ ps) : OnlyChanges ps s (limitsFirst i u) ↔ OnlyChanges ps s u := by
  simp [limitsFirst, *]

@[simp] theorem arrive_only (hS : Part.shutters ∈ ps) (hB : Part.bridges ∈ ps) (hE : Part.events ∈ ps) : OnlyChanges ps s (arrive i u) ↔ OnlyChanges ps s u := by
  simp [arrive, *]

@[simp] theorem limitsDriven_only (hS : Part.shutters ∈ ps) (hB : Part.bridges ∈ ps) (hE : Part.events ∈ ps) : OnlyChanges ps s (limitsDriven i a b u) ↔ OnlyChanges ps s u := by
  simp [limitsDriven, *]

@[simp] theorem edgeActive_only (hS : Part.shutters ∈ ps) (hB : Part.bridges ∈ ps) (hE : Part.events ∈ ps) : OnlyChanges ps s (edgeActive i u) ↔ OnlyChanges ps s u := by
  simp [edgeActive, *]

@[simp] theorem sillObstructs_only (hS : Part.shutters ∈ ps) (hB : Part.bridges ∈ ps) (hE : Part.events ∈ ps) : OnlyChanges ps s (sillObstructs o u) ↔ OnlyChanges ps s u := by
  unfold sillObstructs; apply forEach_only; intro x t; simp [*]

@[simp] theorem setLamp_only (hN : Part.bells ∈ ps) : OnlyChanges ps s (setLamp n st u) ↔ OnlyChanges ps s u := by
  simp [setLamp, *]

@[simp] theorem setOriginLamp_only (hN : Part.bells ∈ ps) : OnlyChanges ps s (setOriginLamp o st u) ↔ OnlyChanges ps s u := by
  unfold setOriginLamp; (repeat' split) <;> simp [*]

@[simp] theorem flashLamp_only (hN : Part.bells ∈ ps) : OnlyChanges ps s (flashLamp n u) ↔ OnlyChanges ps s u := by
  simp [flashLamp, *]

@[simp] theorem strike_only (hN : Part.bells ∈ ps) : OnlyChanges ps s (strike l u) ↔ OnlyChanges ps s u := by
  simp [strike, *]

@[simp] theorem beginStroke_only (hN : Part.bells ∈ ps) : OnlyChanges ps s (beginStroke l u) ↔ OnlyChanges ps s u := by
  unfold beginStroke; (repeat' split) <;> simp [*]

@[simp] theorem beginState_only (hN : Part.bells ∈ ps) : OnlyChanges ps s (beginState l u) ↔ OnlyChanges ps s u := by
  unfold beginState; (repeat' split) <;> simp [*]

@[simp] theorem enterLine_only (hN : Part.bells ∈ ps) : OnlyChanges ps s (enterLine l st u) ↔ OnlyChanges ps s u := by
  simp [enterLine, *]

@[simp] theorem takeStrokes_only (hN : Part.bells ∈ ps) : OnlyChanges ps s (takeStrokes l n u) ↔ OnlyChanges ps s u := by
  simp [takeStrokes, *]

@[simp] theorem soundCall_only (hN : Part.bells ∈ ps) : OnlyChanges ps s (soundCall l c u) ↔ OnlyChanges ps s u := by
  simp [soundCall, *]

@[simp] theorem selectLine_only (hN : Part.bells ∈ ps) : OnlyChanges ps s (selectLine l u) ↔ OnlyChanges ps s u := by
  unfold selectLine; (repeat' split) <;> simp [*]

@[simp] theorem enterGap_only (hN : Part.bells ∈ ps) : OnlyChanges ps s (enterGap l u) ↔ OnlyChanges ps s u := by
  unfold enterGap; (repeat' split) <;> simp [*]

@[simp] theorem ring_only (hN : Part.bells ∈ ps) (hE : Part.events ∈ ps) : OnlyChanges ps s (ring l o c u).1 ↔ OnlyChanges ps s u := by
  unfold ring; dsimp only; (repeat' split) <;> simp [*]

@[simp] theorem soundingRemoved_only (hN : Part.bells ∈ ps) : OnlyChanges ps s (soundingRemoved l u) ↔ OnlyChanges ps s u := by
  simp [soundingRemoved, *]

@[simp] theorem removeCalls_only (hN : Part.bells ∈ ps) : OnlyChanges ps s (removeCalls l f u).1 ↔ OnlyChanges ps s u := by
  unfold removeCalls
  have h := forEach_only (ps := ps) (s := s) (u := modLine l (fun x => { x with queue := x.queue.filter (fun c => !f c) }) u)
    ((lineAt u l).queue.filter f) (fun c u => setOriginLamp c.origin .off u) (by intro x t; simp [*])
  simp only [modLine_only hN] at h
  simp [*]

@[simp] theorem soundingComplete_only (hN : Part.bells ∈ ps) : OnlyChanges ps s (soundingComplete l u) ↔ OnlyChanges ps s u := by
  simp [soundingComplete, *]

@[simp] theorem interruptCall_only (hN : Part.bells ∈ ps) : OnlyChanges ps s (interruptCall l u) ↔ OnlyChanges ps s u := by
  simp [interruptCall, *]

@[simp] theorem callDue_only (hN : Part.bells ∈ ps) (hE : Part.events ∈ ps) (hT : Part.clockwork ∈ ps) : OnlyChanges ps s (callDue l o c u) ↔ OnlyChanges ps s u := by
  unfold callDue; (repeat' split) <;> simp [*]

@[simp] theorem codeStrokeEnd_only (hN : Part.bells ∈ ps) : OnlyChanges ps s (codeStrokeEnd l u) ↔ OnlyChanges ps s u := by
  unfold codeStrokeEnd; (try dsimp only); (repeat' split) <;> simp [*]

@[simp] theorem onTimeEnd_only (hN : Part.bells ∈ ps) : OnlyChanges ps s (onTimeEnd l u) ↔ OnlyChanges ps s u := by
  unfold onTimeEnd; (try dsimp only); (repeat' split) <;> simp [*]

@[simp] theorem lineTimerEnd_only (hN : Part.bells ∈ ps) : OnlyChanges ps s (lineTimerEnd l u) ↔ OnlyChanges ps s u := by
  unfold lineTimerEnd; (try dsimp only); (repeat' split) <;> simp [*]

@[simp] theorem strokesRequest_only (hN : Part.bells ∈ ps) : OnlyChanges ps s (strokesRequest l n u).1 ↔ OnlyChanges ps s u := by
  unfold strokesRequest; (try dsimp only); (repeat' split) <;> simp [*]

@[simp] theorem press_only (hN : Part.bells ∈ ps) (hE : Part.events ∈ ps) : OnlyChanges ps s (press n u) ↔ OnlyChanges ps s u := by
  unfold press; (repeat' split) <;> simp [*]

@[simp] theorem attend_only (hN : Part.bells ∈ ps) : OnlyChanges ps s (attend n u) ↔ OnlyChanges ps s u := by
  unfold attend; (repeat' split) <;> simp [*]

@[simp] theorem lineLatchSet_only (hN : Part.bells ∈ ps) (hE : Part.events ∈ ps) : OnlyChanges ps s (lineLatchSet l u) ↔ OnlyChanges ps s u := by
  simp [lineLatchSet, *]

@[simp] theorem bellsLatchSet_only (hN : Part.bells ∈ ps) (hE : Part.events ∈ ps) : OnlyChanges ps s (bellsLatchSet u) ↔ OnlyChanges ps s u := by
  unfold bellsLatchSet; dsimp only; rw [set_bells_only hN]; apply forEach_only; intro x t; simp [*]

@[simp] theorem bellsFurtherAlarm_only (hN : Part.bells ∈ ps) : OnlyChanges ps s (bellsFurtherAlarm u) ↔ OnlyChanges ps s u := by
  unfold bellsFurtherAlarm; apply forEach_only; intro x t; simp [*]

@[simp] theorem bellsLatchCleared_only (hN : Part.bells ∈ ps) : OnlyChanges ps s (bellsLatchCleared u) ↔ OnlyChanges ps s u := by
  unfold bellsLatchCleared; apply forEach_only; intro x t; simp [*]

@[simp] theorem setPhrase_only (hP : Part.phrases ∈ ps) : OnlyChanges ps s (setPhrase p x u) ↔ OnlyChanges ps s u := by
  simp [setPhrase, *]

@[simp] theorem setOwners_only (hP : Part.phrases ∈ ps) : OnlyChanges ps s (setOwners g o u) ↔ OnlyChanges ps s u := by
  simp [setOwners, *]

@[simp] theorem allocate_only (hP : Part.phrases ∈ ps) : OnlyChanges ps s (allocate p n u) ↔ OnlyChanges ps s u := by
  simp [allocate, *]

@[simp] theorem freePhrase_only (hP : Part.phrases ∈ ps) : OnlyChanges ps s (freePhrase p u) ↔ OnlyChanges ps s u := by
  simp [freePhrase, *]

@[simp] theorem endUse_only (hP : Part.phrases ∈ ps) : OnlyChanges ps s (endUse p u) ↔ OnlyChanges ps s u := by
  unfold endUse; (repeat' split) <;> simp [*]

@[simp] theorem startPort_only (hP : Part.phrases ∈ ps) : OnlyChanges ps s (startPort u) ↔ OnlyChanges ps s u := by
  unfold startPort; (repeat' split) <;> simp [*]

/-- R149: all that a read of channel A can do to the port: wait, or take the place of a read of B of the same event. -/
theorem askA_cases (q : ReadReq) (r : PhraseStore) :
    askA q r = { r with waitA := some q } ∨
      ∃ p, r.busy = some (.read .b p false) ∧ p.seq = q.seq ∧
        askA q r = { r with busy := some (.read .a q false), waitB := some p } := by
  unfold askA
  split
  · split
    · exact .inr ⟨_, ‹_›, ‹_›, rfl⟩
    · exact .inl rfl
  · exact .inl rfl

@[simp] theorem requestRead_only (hP : Part.phrases ∈ ps) : OnlyChanges ps s (requestRead ch q u) ↔ OnlyChanges ps s u := by
  unfold requestRead; (repeat' split) <;> simp [*]

@[simp] theorem withdrawReads_only (hP : Part.phrases ∈ ps) : OnlyChanges ps s (withdrawReads ch u) ↔ OnlyChanges ps s u := by
  unfold withdrawReads; (repeat' split) <;> simp [*]

@[simp] theorem startStream_only (hP : Part.phrases ∈ ps) : OnlyChanges ps s (startStream k c u) ↔ OnlyChanges ps s u := by
  simp [startStream, *]

@[simp] theorem startDirectoryWrite_only (hP : Part.phrases ∈ ps) : OnlyChanges ps s (startDirectoryWrite k u) ↔ OnlyChanges ps s u := by
  simp [startDirectoryWrite, *]

theorem beginUse_only {p n : Nat} {t : State} (hP : Part.phrases ∈ ps) (h : beginUse p u = some (t, n)) :
    OnlyChanges ps s t ↔ OnlyChanges ps s u := by
  unfold beginUse at h
  split at h
  · simp only [Option.some.injEq, Prod.mk.injEq] at h
    rw [← h.1]; simp [*]
  all_goals simp at h

@[simp] theorem announceDone_only (hE : Part.events ∈ ps) : OnlyChanges ps s (announceDone h e u) ↔ OnlyChanges ps s u := by
  simp [announceDone, *]

@[simp] theorem removeRecord_only (hA : Part.announcer ∈ ps) : OnlyChanges ps s (removeRecord h u) ↔ OnlyChanges ps s u := by
  simp [removeRecord, *]

@[simp] theorem routeTo_only (hA : Part.announcer ∈ ps) : OnlyChanges ps s (routeTo ch z u) ↔ OnlyChanges ps s u := by
  simp [routeTo, *]

@[simp] theorem unroute_only (hA : Part.announcer ∈ ps) : OnlyChanges ps s (unroute ch u) ↔ OnlyChanges ps s u := by
  simp [unroute, *]

@[simp] theorem requestBlock_only (hA : Part.announcer ∈ ps) (hP : Part.phrases ∈ ps) : OnlyChanges ps s (requestBlock ch u) ↔ OnlyChanges ps s u := by
  unfold requestBlock; (try dsimp only); (repeat' split) <;> simp [*]

@[simp] theorem stopChannel_only (hA : Part.announcer ∈ ps) (hP : Part.phrases ∈ ps) : OnlyChanges ps s (stopChannel ch u) ↔ OnlyChanges ps s u := by
  unfold stopChannel; (try dsimp only); (repeat' split) <;> simp [*]

@[simp] theorem yieldChannel_only (hA : Part.announcer ∈ ps) (hP : Part.phrases ∈ ps) (hE : Part.events ∈ ps) : OnlyChanges ps s (yieldChannel ch u) ↔ OnlyChanges ps s u := by
  unfold yieldChannel; (try dsimp only); (repeat' split) <;> simp [*]

@[simp] theorem passEnd_only (hA : Part.announcer ∈ ps) (hP : Part.phrases ∈ ps) (hE : Part.events ∈ ps) : OnlyChanges ps s (passEnd ch u).1 ↔ OnlyChanges ps s u := by
  unfold passEnd; (try dsimp only); (repeat' split) <;> simp [*]

@[simp] theorem playFrom_only (hA : Part.announcer ∈ ps) (hP : Part.phrases ∈ ps) (hE : Part.events ∈ ps) : OnlyChanges ps s (playFrom ch xs u).1 ↔ OnlyChanges ps s u := by
  induction xs generalizing u with
  | nil => simp [playFrom, *]
  | cons x xs ih =>
    unfold playFrom
    split
    · rename_i h
      simp [*, beginUse_only hP h]
    · dsimp only
      (repeat' split) <;> simp [*]

@[simp] theorem phraseEnded_only (hA : Part.announcer ∈ ps) (hP : Part.phrases ∈ ps) (hE : Part.events ∈ ps) : OnlyChanges ps s (phraseEnded ch u).1 ↔ OnlyChanges ps s u := by
  unfold phraseEnded; (try dsimp only); (repeat' split) <;> simp [*]

@[simp] theorem startOn_only (hA : Part.announcer ∈ ps) (hP : Part.phrases ∈ ps) (hE : Part.events ∈ ps) : OnlyChanges ps s (startOn ch c u) ↔ OnlyChanges ps s u := by
  simp [startOn, *]

@[simp] theorem setYield_only (hA : Part.announcer ∈ ps) : OnlyChanges ps s (setYield ch u) ↔ OnlyChanges ps s u := by
  simp [setYield, *]

@[simp] theorem markYields_only (hA : Part.announcer ∈ ps) : OnlyChanges ps s (markYields c u) ↔ OnlyChanges ps s u := by
  unfold markYields; (try dsimp only); (repeat' split) <;> simp [*]

@[simp] theorem startPass_only (hA : Part.announcer ∈ ps) (hP : Part.phrases ∈ ps) (hE : Part.events ∈ ps) : OnlyChanges ps s (startPass xs u).1 ↔ OnlyChanges ps s u := by
  induction xs generalizing u with
  | nil => simp [startPass]
  | cons x xs ih =>
    unfold startPass
    dsimp only
    (repeat' split) <;> simp [*]

@[simp] theorem startRule_only (hA : Part.announcer ∈ ps) (hP : Part.phrases ∈ ps) (hE : Part.events ∈ ps) : OnlyChanges ps s (startRule n u) ↔ OnlyChanges ps s u := by
  induction n generalizing u with
  | zero => rfl
  | succ n ih =>
    unfold startRule
    have h := startPass_only (ps := ps) (s := s) (u := u) (xs := candidates u) hA hP hE
    split <;> rename_i e <;> rw [e] at h
    · rw [ih]; exact h
    · exact h

@[simp] theorem applyStartRule_only (hA : Part.announcer ∈ ps) (hP : Part.phrases ∈ ps) (hE : Part.events ∈ ps) : OnlyChanges ps s (applyStartRule u) ↔ OnlyChanges ps s u := by
  simp [applyStartRule, *]

@[simp] theorem afterChannel_only {r : State × Bool} (hA : Part.announcer ∈ ps) (hP : Part.phrases ∈ ps)
    (hE : Part.events ∈ ps) : OnlyChanges ps s (afterChannel r) ↔ OnlyChanges ps s r.1 := by
  simp [afterChannel, *]

@[simp] theorem enterRecord_only (hA : Part.announcer ∈ ps) (hP : Part.phrases ∈ ps) (hE : Part.events ∈ ps) : OnlyChanges ps s (enterRecord c z p r u).1 ↔ OnlyChanges ps s u := by
  simp [enterRecord, *]

@[simp] theorem closingAnnouncement_only (hA : Part.announcer ∈ ps) (hP : Part.phrases ∈ ps) (hE : Part.events ∈ ps) : OnlyChanges ps s (closingAnnouncement z p u).1 ↔ OnlyChanges ps s u := by
  unfold closingAnnouncement; dsimp only; (repeat' split) <;> simp [*]

@[simp] theorem stopHandle_only (hA : Part.announcer ∈ ps) (hP : Part.phrases ∈ ps) : OnlyChanges ps s (stopHandle h u) ↔ OnlyChanges ps s u := by
  unfold stopHandle; (repeat' split) <;> simp [*]

@[simp] theorem annLatchSet_only (hA : Part.announcer ∈ ps) (hP : Part.phrases ∈ ps) (hE : Part.events ∈ ps) : OnlyChanges ps s (annLatchSet u) ↔ OnlyChanges ps s u := by
  unfold annLatchSet
  have h := forEach_only (ps := ps) (s := s) (u := u) u.ann.table
    (fun r v => announceDone r.handle .dropped (stopHandle r.handle v)) (by intro x t; simp [*])
  simp [*]

@[simp] theorem annFurtherAlarm_only (hA : Part.announcer ∈ ps) (hP : Part.phrases ∈ ps) (hE : Part.events ∈ ps) : OnlyChanges ps s (annFurtherAlarm u) ↔ OnlyChanges ps s u := by
  simp [annFurtherAlarm, *]

@[simp] theorem stopEvacuation_only (hA : Part.announcer ∈ ps) (hP : Part.phrases ∈ ps) (hE : Part.events ∈ ps) : OnlyChanges ps s (stopEvacuation u) ↔ OnlyChanges ps s u := by
  simp [stopEvacuation, *]

@[simp] theorem annLatchCleared_only (hA : Part.announcer ∈ ps) (hP : Part.phrases ∈ ps) (hE : Part.events ∈ ps) : OnlyChanges ps s (annLatchCleared u) ↔ OnlyChanges ps s u := by
  simp [annLatchCleared, *]

@[simp] theorem blockArrived_only (hA : Part.announcer ∈ ps) (hP : Part.phrases ∈ ps) : OnlyChanges ps s (blockArrived ch q u) ↔ OnlyChanges ps s u := by
  simp [blockArrived, *]

@[simp] theorem readDone_only (hA : Part.announcer ∈ ps) (hP : Part.phrases ∈ ps) : OnlyChanges ps s (readDone u) ↔ OnlyChanges ps s u := by
  unfold readDone; (repeat' split) <;> simp [*]

@[simp] theorem blockEnded_only (hA : Part.announcer ∈ ps) (hP : Part.phrases ∈ ps) (hE : Part.events ∈ ps) : OnlyChanges ps s (blockEnded ch u) ↔ OnlyChanges ps s u := by
  unfold blockEnded; (try dsimp only); (repeat' split) <;> simp [*]

@[simp] theorem gapEnded_only (hA : Part.announcer ∈ ps) (hP : Part.phrases ∈ ps) (hE : Part.events ∈ ps) : OnlyChanges ps s (gapEnded ch u) ↔ OnlyChanges ps s u := by
  unfold gapEnded; (try dsimp only); (repeat' split) <;> simp [*]

@[simp] theorem sampleChannel_only (hA : Part.announcer ∈ ps) : OnlyChanges ps s (sampleChannel ch u) ↔ OnlyChanges ps s u := by
  unfold sampleChannel; (try dsimp only); (repeat' split) <;> simp [*]

@[simp] theorem setResult_only (hG : Part.programme ∈ ps) : OnlyChanges ps s (setResult k r u) ↔ OnlyChanges ps s u := by
  simp [setResult, *]

@[simp] theorem stepDone_only (hG : Part.programme ∈ ps) (hE : Part.events ∈ ps) : OnlyChanges ps s (stepDone k a i u) ↔ OnlyChanges ps s u := by
  simp [stepDone, *]

@[simp] theorem stepSkipped_only (hG : Part.programme ∈ ps) (hE : Part.events ∈ ps) : OnlyChanges ps s (stepSkipped k r u) ↔ OnlyChanges ps s u := by
  simp [stepSkipped, *]

@[simp] theorem finishLoopStop_only (hG : Part.programme ∈ ps) (hE : Part.events ∈ ps) : OnlyChanges ps s (finishLoopStop k a ok u) ↔ OnlyChanges ps s u := by
  simp [finishLoopStop, *]

@[simp] theorem enterHeld_only (hG : Part.programme ∈ ps) : OnlyChanges ps s (enterHeld k m w u) ↔ OnlyChanges ps s u := by
  simp [enterHeld, *]

@[simp] theorem finishClose_only (hG : Part.programme ∈ ps) (hE : Part.events ∈ ps) : OnlyChanges ps s (finishClose k a w u) ↔ OnlyChanges ps s u := by
  simp [finishClose, *]

@[simp] theorem lockFloors_only (hL : Part.loop ∈ ps) : OnlyChanges ps s (lockFloors f u) ↔ OnlyChanges ps s u := by
  simp [lockFloors, *]

@[simp] theorem strokesOn_only (hN : Part.bells ∈ ps) : OnlyChanges ps s (strokesOn n ls u).1 ↔ OnlyChanges ps s u := by
  unfold strokesOn
  apply foldl_only
  intro r x
  simp [*]

@[simp] theorem beginStep_only (hL : Part.loop ∈ ps) (hS : Part.shutters ∈ ps) (hB : Part.bridges ∈ ps) (hN : Part.bells ∈ ps) (hP : Part.phrases ∈ ps) (hA : Part.announcer ∈ ps) (hG : Part.programme ∈ ps) (hE : Part.events ∈ ps) : OnlyChanges ps s (beginStep k x u).1 ↔ OnlyChanges ps s u := by
  unfold beginStep
  split
  · simp [*]
  · split
    · rename_i ps' zs' _
      have h := closingAnnouncement_only (ps := ps) (s := s) (u := u) (z := zs') (p := ps') hA hP hE
      split <;> rename_i e <;> rw [e] at h <;> rw [← h] <;> simp [hG, hE]
    all_goals (try dsimp only)
    all_goals (repeat' split) <;> simp [hL, hS, hB, hN, hG, hE]

@[simp] theorem enterComplete_only (hG : Part.programme ∈ ps) : OnlyChanges ps s (enterComplete u) ↔ OnlyChanges ps s u := by
  simp [enterComplete, *]

@[simp] theorem completeProgramme_only (hG : Part.programme ∈ ps) (hE : Part.events ∈ ps) : OnlyChanges ps s (completeProgramme u) ↔ OnlyChanges ps s u := by
  simp [completeProgramme, *]

@[simp] theorem takeDue_only (hL : Part.loop ∈ ps) (hS : Part.shutters ∈ ps) (hB : Part.bridges ∈ ps) (hN : Part.bells ∈ ps) (hP : Part.phrases ∈ ps) (hA : Part.announcer ∈ ps) (hG : Part.programme ∈ ps) (hE : Part.events ∈ ps) : OnlyChanges ps s (takeDue xs u) ↔ OnlyChanges ps s u := by
  induction xs generalizing u with
  | nil => simp [takeDue, *]
  | cons k xs ih =>
    unfold takeDue
    split
    · exact ih
    · rename_i x _
      split
      · have h := beginStep_only (ps := ps) (s := s) (u := u) (k := k) (x := x) hL hS hB hN hP hA hG hE
        split <;> rename_i e <;> rw [e] at h
        · rw [ih]; exact h
        · exact h
      · simp [*]

@[simp] theorem missProgramme_only (hG : Part.programme ∈ ps) (hE : Part.events ∈ ps) : OnlyChanges ps s (missProgramme u) ↔ OnlyChanges ps s u := by
  simp [missProgramme, *]

@[simp] theorem startProgramme_only (hL : Part.loop ∈ ps) (hS : Part.shutters ∈ ps) (hB : Part.bridges ∈ ps) (hN : Part.bells ∈ ps) (hP : Part.phrases ∈ ps) (hA : Part.announcer ∈ ps) (hG : Part.programme ∈ ps) (hE : Part.events ∈ ps) : OnlyChanges ps s (startProgramme n u) ↔ OnlyChanges ps s u := by
  simp [startProgramme, *]

@[simp] theorem startTest_only (hL : Part.loop ∈ ps) (hS : Part.shutters ∈ ps) (hB : Part.bridges ∈ ps) (hN : Part.bells ∈ ps) (hP : Part.phrases ∈ ps) (hA : Part.announcer ∈ ps) (hG : Part.programme ∈ ps) (hE : Part.events ∈ ps) : OnlyChanges ps s (startTest u) ↔ OnlyChanges ps s u := by
  simp [startTest, *]

@[simp] theorem armCore_only (hG : Part.programme ∈ ps) : OnlyChanges ps s (armCore u) ↔ OnlyChanges ps s u := by
  simp [armCore, *]

@[simp] theorem arm_only (hL : Part.loop ∈ ps) (hS : Part.shutters ∈ ps) (hB : Part.bridges ∈ ps) (hN : Part.bells ∈ ps) (hP : Part.phrases ∈ ps) (hA : Part.announcer ∈ ps) (hG : Part.programme ∈ ps) (hE : Part.events ∈ ps) : OnlyChanges ps s (arm u) ↔ OnlyChanges ps s u := by
  simp [arm, *]

@[simp] theorem settleEnd_only (hL : Part.loop ∈ ps) (hS : Part.shutters ∈ ps) (hB : Part.bridges ∈ ps) (hN : Part.bells ∈ ps) (hP : Part.phrases ∈ ps) (hA : Part.announcer ∈ ps) (hG : Part.programme ∈ ps) (hE : Part.events ∈ ps) : OnlyChanges ps s (settleEnd u) ↔ OnlyChanges ps s u := by
  simp [settleEnd, *]

@[simp] theorem resumeAfter_only (hL : Part.loop ∈ ps) (hS : Part.shutters ∈ ps) (hB : Part.bridges ∈ ps) (hN : Part.bells ∈ ps) (hP : Part.phrases ∈ ps) (hA : Part.announcer ∈ ps) (hG : Part.programme ∈ ps) (hE : Part.events ∈ ps) : OnlyChanges ps s (resumeAfter k u) ↔ OnlyChanges ps s u := by
  simp [resumeAfter, *]

@[simp] theorem pollHold_only (hL : Part.loop ∈ ps) (hS : Part.shutters ∈ ps) (hB : Part.bridges ∈ ps) (hN : Part.bells ∈ ps) (hP : Part.phrases ∈ ps) (hA : Part.announcer ∈ ps) (hG : Part.programme ∈ ps) (hE : Part.events ∈ ps) : OnlyChanges ps s (pollHold u) ↔ OnlyChanges ps s u := by
  unfold pollHold; (try dsimp only); (repeat' split) <;> simp [*]

@[simp] theorem holdExpired_only (hL : Part.loop ∈ ps) (hS : Part.shutters ∈ ps) (hB : Part.bridges ∈ ps) (hN : Part.bells ∈ ps) (hP : Part.phrases ∈ ps) (hA : Part.announcer ∈ ps) (hG : Part.programme ∈ ps) (hE : Part.events ∈ ps) : OnlyChanges ps s (holdExpired u) ↔ OnlyChanges ps s u := by
  unfold holdExpired; (try dsimp only); (repeat' split) <;> simp [*]

@[simp] theorem abortProgramme_only (hG : Part.programme ∈ ps) (hE : Part.events ∈ ps) : OnlyChanges ps s (abortProgramme c u) ↔ OnlyChanges ps s u := by
  unfold abortProgramme; (try dsimp only); (repeat' split) <;> simp [*]

@[simp] theorem progLatchSet_only (hL : Part.loop ∈ ps) (hS : Part.shutters ∈ ps) (hB : Part.bridges ∈ ps) (hN : Part.bells ∈ ps) (hP : Part.phrases ∈ ps) (hA : Part.announcer ∈ ps) (hG : Part.programme ∈ ps) (hE : Part.events ∈ ps) : OnlyChanges ps s (progLatchSet u) ↔ OnlyChanges ps s u := by
  simp [progLatchSet, *]

@[simp] theorem takeDueNow_only (hL : Part.loop ∈ ps) (hS : Part.shutters ∈ ps) (hB : Part.bridges ∈ ps) (hN : Part.bells ∈ ps) (hP : Part.phrases ∈ ps) (hA : Part.announcer ∈ ps) (hG : Part.programme ∈ ps) (hE : Part.events ∈ ps) : OnlyChanges ps s (takeDueNow u) ↔ OnlyChanges ps s u := by
  unfold takeDueNow; (repeat' split) <;> simp [*]

@[simp] theorem secondTick_only (hL : Part.loop ∈ ps) (hS : Part.shutters ∈ ps) (hB : Part.bridges ∈ ps) (hN : Part.bells ∈ ps) (hP : Part.phrases ∈ ps) (hA : Part.announcer ∈ ps) (hG : Part.programme ∈ ps) (hE : Part.events ∈ ps) (hK : Part.clock ∈ ps) : OnlyChanges ps s (secondTick u) ↔ OnlyChanges ps s u := by
  unfold secondTick; (try dsimp only); (repeat' split) <;> simp [*]

@[simp] theorem setClock_only (hL : Part.loop ∈ ps) (hS : Part.shutters ∈ ps) (hB : Part.bridges ∈ ps) (hN : Part.bells ∈ ps) (hP : Part.phrases ∈ ps) (hA : Part.announcer ∈ ps) (hG : Part.programme ∈ ps) (hE : Part.events ∈ ps) (hK : Part.clock ∈ ps) : OnlyChanges ps s (setClock a b u) ↔ OnlyChanges ps s u := by
  unfold setClock; (try dsimp only); (repeat' split) <;> simp [*]

@[simp] theorem finish_only (hL : Part.loop ∈ ps) (hS : Part.shutters ∈ ps) (hB : Part.bridges ∈ ps) (hN : Part.bells ∈ ps) (hP : Part.phrases ∈ ps) (hA : Part.announcer ∈ ps) (hG : Part.programme ∈ ps) (hE : Part.events ∈ ps) : OnlyChanges ps s (finish u) ↔ OnlyChanges ps s u := by
  simp [finish, *]

@[simp] theorem setZone_only (hF : Part.fire ∈ ps) : OnlyChanges ps s (setZone z x u) ↔ OnlyChanges ps s u := by
  simp [setZone, *]

@[simp] theorem latchReaders_only (hL : Part.loop ∈ ps) (hS : Part.shutters ∈ ps) (hB : Part.bridges ∈ ps) (hN : Part.bells ∈ ps) (hP : Part.phrases ∈ ps) (hA : Part.announcer ∈ ps) (hG : Part.programme ∈ ps) (hE : Part.events ∈ ps) : OnlyChanges ps s (latchReaders u) ↔ OnlyChanges ps s u := by
  simp [latchReaders, *]

@[simp] theorem furtherReaders_only (hS : Part.shutters ∈ ps) (hB : Part.bridges ∈ ps) (hN : Part.bells ∈ ps) (hP : Part.phrases ∈ ps) (hA : Part.announcer ∈ ps) (hE : Part.events ∈ ps) : OnlyChanges ps s (furtherReaders u) ↔ OnlyChanges ps s u := by
  simp [furtherReaders, *]

@[simp] theorem zoneAlarm_only (hL : Part.loop ∈ ps) (hS : Part.shutters ∈ ps) (hB : Part.bridges ∈ ps) (hN : Part.bells ∈ ps) (hP : Part.phrases ∈ ps) (hA : Part.announcer ∈ ps) (hG : Part.programme ∈ ps) (hE : Part.events ∈ ps) (hF : Part.fire ∈ ps) : OnlyChanges ps s (zoneAlarm z u) ↔ OnlyChanges ps s u := by
  simp [zoneAlarm, *]

@[simp] theorem zoneEntered_only (hL : Part.loop ∈ ps) (hS : Part.shutters ∈ ps) (hB : Part.bridges ∈ ps) (hN : Part.bells ∈ ps) (hP : Part.phrases ∈ ps) (hA : Part.announcer ∈ ps) (hG : Part.programme ∈ ps) (hE : Part.events ∈ ps) (hF : Part.fire ∈ ps) : OnlyChanges ps s (zoneEntered z a b u) ↔ OnlyChanges ps s u := by
  unfold zoneEntered; (try dsimp only); (repeat' split) <;> simp [*]

@[simp] theorem zoneSample_only (hL : Part.loop ∈ ps) (hS : Part.shutters ∈ ps) (hB : Part.bridges ∈ ps) (hN : Part.bells ∈ ps) (hP : Part.phrases ∈ ps) (hA : Part.announcer ∈ ps) (hG : Part.programme ∈ ps) (hE : Part.events ∈ ps) (hF : Part.fire ∈ ps) : OnlyChanges ps s (zoneSample z v u) ↔ OnlyChanges ps s u := by
  unfold zoneSample; (try dsimp only); (repeat' split) <;> simp [*]

@[simp] theorem clearLatch_only (hS : Part.shutters ∈ ps) (hB : Part.bridges ∈ ps) (hN : Part.bells ∈ ps) (hP : Part.phrases ∈ ps) (hA : Part.announcer ∈ ps) (hE : Part.events ∈ ps) (hF : Part.fire ∈ ps) : OnlyChanges ps s (clearLatch u) ↔ OnlyChanges ps s u := by
  simp [clearLatch, *]

@[simp] theorem takeSills_only (hL : Part.loop ∈ ps) (hS : Part.shutters ∈ ps) (hB : Part.bridges ∈ ps) (hE : Part.events ∈ ps) : OnlyChanges ps s (takeSills r u) ↔ OnlyChanges ps s u := by
  unfold takeSills; apply forEach_only; intro x t; simp [*]

@[simp] theorem takeBeams_only (hL : Part.loop ∈ ps) (hS : Part.shutters ∈ ps) (hB : Part.bridges ∈ ps) (hE : Part.events ∈ ps) : OnlyChanges ps s (takeBeams r o u) ↔ OnlyChanges ps s u := by
  unfold takeBeams; (try dsimp only); (repeat' split) <;> simp [*]

@[simp] theorem takeStops_only (hL : Part.loop ∈ ps) (hS : Part.shutters ∈ ps) (hB : Part.bridges ∈ ps) (hE : Part.events ∈ ps) : OnlyChanges ps s (takeStops r u) ↔ OnlyChanges ps s u := by
  unfold takeStops
  have h := forEach_only (ps := ps) (s := s) (u := u) (List.range (min 8 u.cfg.geom.landings))
    (fun l v => if acceptedActive r v (buttonPoint l) then loopFault .landingStop (some l) v else v)
    (by intro x t; simp [*])
  simp [*]

@[simp] theorem takeLimits_only (hL : Part.loop ∈ ps) (hS : Part.shutters ∈ ps) (hB : Part.bridges ∈ ps) (hE : Part.events ∈ ps) : OnlyChanges ps s (takeLimits r i u) ↔ OnlyChanges ps s u := by
  unfold takeLimits; (try dsimp only); (repeat' split) <;> simp [*]

@[simp] theorem takeShutterSills_only (hS : Part.shutters ∈ ps) (hB : Part.bridges ∈ ps) (hE : Part.events ∈ ps) : OnlyChanges ps s (takeShutterSills r u) ↔ OnlyChanges ps s u := by
  unfold takeShutterSills
  have h := forEach_only (ps := ps) (s := s) (u := u) (List.range 16)
    (fun o v => if r.activeEdge v (sillPoint o) then sillObstructs o v else v) (by intro x t; simp [*])
  simp [*]

@[simp] theorem takeShutterInputs_only (hL : Part.loop ∈ ps) (hS : Part.shutters ∈ ps) (hB : Part.bridges ∈ ps) (hE : Part.events ∈ ps) : OnlyChanges ps s (takeShutterInputs r u) ↔ OnlyChanges ps s u := by
  unfold takeShutterInputs
  dsimp only
  rw [takeShutterSills_only hS hB hE, forEach_only, forEach_only]
  · intro x t; simp [*]
  · intro x t; simp [*]

@[simp] theorem takeStations_only (hN : Part.bells ∈ ps) (hE : Part.events ∈ ps) : OnlyChanges ps s (takeStations r u) ↔ OnlyChanges ps s u := by
  unfold takeStations; apply forEach_only; intro x t; simp [*]

@[simp] theorem goodScan_only (hL : Part.loop ∈ ps) (hS : Part.shutters ∈ ps) (hB : Part.bridges ∈ ps) (hN : Part.bells ∈ ps) (hE : Part.events ∈ ps) (hD : Part.field ∈ ps) : OnlyChanges ps s (goodScan v u) ↔ OnlyChanges ps s u := by
  unfold goodScan
  dsimp only
  rw [takeStations_only hN hE, takeShutterInputs_only hL hS hB hE, takeStops_only hL hS hB hE, forEach_only,
    takeSills_only hL hS hB hE, modField_only hD]
  intro x t; simp [*]

@[simp] theorem returnScan_only (hE : Part.events ∈ ps) (hD : Part.field ∈ ps) : OnlyChanges ps s (returnScan v u) ↔ OnlyChanges ps s u := by
  unfold returnScan; (repeat' split) <;> simp [*]

@[simp] theorem fieldLostReaders_only (hL : Part.loop ∈ ps) (hS : Part.shutters ∈ ps) (hB : Part.bridges ∈ ps) (hE : Part.events ∈ ps) : OnlyChanges ps s (fieldLostReaders u) ↔ OnlyChanges ps s u := by
  simp [fieldLostReaders, *]

@[simp] theorem badScan_only (hL : Part.loop ∈ ps) (hS : Part.shutters ∈ ps) (hB : Part.bridges ∈ ps) (hE : Part.events ∈ ps) (hD : Part.field ∈ ps) : OnlyChanges ps s (badScan u) ↔ OnlyChanges ps s u := by
  unfold badScan; (repeat' split) <;> simp [*]

@[simp] theorem scanDone_only (hL : Part.loop ∈ ps) (hS : Part.shutters ∈ ps) (hB : Part.bridges ∈ ps) (hN : Part.bells ∈ ps) (hP : Part.phrases ∈ ps) (hA : Part.announcer ∈ ps) (hG : Part.programme ∈ ps) (hE : Part.events ∈ ps) (hD : Part.field ∈ ps) : OnlyChanges ps s (scanDone v k u) ↔ OnlyChanges ps s u := by
  simp [scanDone, *]

/-- The check byte of a frame makes the sum of its length, body and check 0 (section 10.2). -/
theorem frameSum_check (n : Byte) (body : List Byte) : frameSum n body (0#8 - body.foldl (· + ·) n) = 0#8 := by
  simp [frameSum]

/-- What goes out on the serial line once a reply is composed (R192). -/
@[simp] theorem serialOut_compose {s : State} {k t : Byte} {o : ReqOutcome} {m : Byte} {y : List Byte} :
    serialOut (compose k t o m y s) = frameBytes ((k ||| 0x80#8) :: t :: BitVec.ofNat 8 o.code :: m :: y) := rfl

@[simp] theorem compose_only (hI : Part.line ∈ ps) : OnlyChanges ps s (compose k t o m y u) ↔ OnlyChanges ps s u := by
  apply OnlyChanges.iff; intro p; cases p <;> simp_all [Part.same, compose]

@[simp] theorem closeFramer_only (hI : Part.line ∈ ps) : OnlyChanges ps s (closeFramer u) ↔ OnlyChanges ps s u := by
  apply OnlyChanges.iff; intro p; cases p <;> simp_all [Part.same, closeFramer]

@[simp] theorem setDropped_only (hI : Part.line ∈ ps) : OnlyChanges ps s (setDropped u) ↔ OnlyChanges ps s u := by
  apply OnlyChanges.iff; intro p; cases p <;> simp_all [Part.same, setDropped]

@[simp] theorem markChanged_only (hX : Part.marks ∈ ps) : OnlyChanges ps s (markChanged u) ↔ OnlyChanges ps s u := by
  apply OnlyChanges.iff; intro p; cases p <;> simp_all [Part.same, markChanged]

@[simp] theorem respond_only {k t : Byte} {r : State × Answer} (hI : Part.line ∈ ps) :
    OnlyChanges ps s (respond k t r) ↔ OnlyChanges ps s r.1 := by
  unfold respond
  split
  · simp [*]
  · simp [*]
  · apply OnlyChanges.iff; intro p; cases p <;> simp_all [Part.same]

/-- A request changes the line and what its owner changes. -/
theorem request_only {k t : Byte} {own : Owner} (hI : Part.line ∈ ps)
    (h : ∀ v, OnlyChanges ps s (own v).1 ↔ OnlyChanges ps s v) :
    OnlyChanges ps s (request k t own u) ↔ OnlyChanges ps s u := by
  unfold request
  split <;> simp [*]

/-- What waits for a write composes its reply and changes nothing else. -/
@[simp] theorem replyNow_only {o : ReqOutcome} {y : List Byte} (hI : Part.line ∈ ps) :
    OnlyChanges ps s (replyNow o y u) ↔ OnlyChanges ps s u := by
  unfold replyNow
  split <;> simp [*]

/-- The end of an event changes what the owner and the end of the event change. -/
theorem finishing_only {own : Owner} {v : State} (h : ∀ w, OnlyChanges ps s (own w).1 ↔ OnlyChanges ps s w)
    (k : ∀ w, OnlyChanges ps s (finish w) ↔ OnlyChanges ps s w) :
    OnlyChanges ps s (finishing own v).1 ↔ OnlyChanges ps s v := by
  simp only [finishing]; rw [k, h]

/-! ### The outputs of a bridge -/

@[simp] theorem checking_output (p : Purpose) (lv : List (Bool × Bool)) (due : Nat) :
    (BridgeState.checking p lv due).output = checkOutput lv.length := by
  match lv with
  | [] | [_] | _ :: _ :: _ => rfl

@[simp] theorem driving_output (raise : Bool) (sr op : Nat) (g : Option Nat) :
    (BridgeState.driving raise sr op g).output = .drive raise := rfl

@[simp] theorem dwell_output (due : Option Nat) (hold travelled : Bool) :
    (BridgeState.dwell due hold travelled).output = .shorted := rfl

@[simp] theorem free_output : BridgeState.free.output = .floating := rfl

@[simp] theorem outOfService_output : BridgeState.outOfService.output = .floating := rfl

end Sys2Proof.Laws
end

