-- ==== Sys2Proof/Laws/Owners.lean ====
section
/-! SUPPORT. What each request's owner and each event's own operation may change. -/

namespace Sys2Proof.Laws

open Sys2Proof.Machine Sys2Proof.Safety

variable {ps : List Part} {s u : State}

/-- A held programme is what makes the end of an event do more than serve the bridges. -/
theorem finish_of_not_held {v : State} (h : v.prog.st ≠ .held) : finish v = serveBridges v := by
  simp [finish, pollHold, heldStep, h]

@[simp] theorem refuse_only {o : ReqOutcome} {y : List Byte} :
    OnlyChanges ps s (refuse o y u).1 ↔ OnlyChanges ps s u := Iff.rfl

@[simp] theorem answerDone_only {y : List Byte} : OnlyChanges ps s (answerDone y u).1 ↔ OnlyChanges ps s u := Iff.rfl

@[simp] theorem defined_only {b : Bool} {y : List Byte} (hX : Part.marks ∈ ps) :
    OnlyChanges ps s (defined b y u).1 ↔ OnlyChanges ps s u := by
  simp [defined, *]

/-- The end of an event when the programme is not HELD, or may be. -/
theorem expire_only {due : Option Nat} {f : State → State} (hT : Part.clockwork ∈ ps)
    (h : ∀ v, OnlyChanges ps s (f v) ↔ OnlyChanges ps s v) :
    OnlyChanges ps s (expire due f u) ↔ OnlyChanges ps s u := by
  unfold expire
  split <;> simp [*]

@[simp] theorem ownIdentify_only  : OnlyChanges ps s (ownIdentify u).1 ↔ OnlyChanges ps s u := by
  simp [ownIdentify, *]

@[simp] theorem ownStatus_only  : OnlyChanges ps s (ownStatus u).1 ↔ OnlyChanges ps s u := by
  simp [ownStatus, *]

@[simp] theorem ownQueryLoop_only  : OnlyChanges ps s (ownQueryLoop u).1 ↔ OnlyChanges ps s u := by
  simp [ownQueryLoop, *]

@[simp] theorem ownQueryCars_only  : OnlyChanges ps s (ownQueryCars u).1 ↔ OnlyChanges ps s u := by
  unfold ownQueryCars; (repeat' split) <;> simp [*]

@[simp] theorem ownQueryLanding_only  : OnlyChanges ps s (ownQueryLanding m u).1 ↔ OnlyChanges ps s u := by
  unfold ownQueryLanding; (repeat' split) <;> simp [*]

@[simp] theorem ownQueryZones_only  : OnlyChanges ps s (ownQueryZones u).1 ↔ OnlyChanges ps s u := by
  simp [ownQueryZones, *]

@[simp] theorem ownQueryShutter_only  : OnlyChanges ps s (ownQueryShutter m u).1 ↔ OnlyChanges ps s u := by
  unfold ownQueryShutter; (repeat' split) <;> simp [*]

@[simp] theorem ownQueryBridges_only  : OnlyChanges ps s (ownQueryBridges u).1 ↔ OnlyChanges ps s u := by
  simp [ownQueryBridges, *]

@[simp] theorem ownQueryBellLine_only  : OnlyChanges ps s (ownQueryBellLine m n u).1 ↔ OnlyChanges ps s u := by
  unfold ownQueryBellLine; (repeat' split) <;> simp [*]

@[simp] theorem ownQueryPhrases_only  : OnlyChanges ps s (ownQueryPhrases n u).1 ↔ OnlyChanges ps s u := by
  simp [ownQueryPhrases, *]

@[simp] theorem ownQueryAnnouncements_only  : OnlyChanges ps s (ownQueryAnnouncements u).1 ↔ OnlyChanges ps s u := by
  simp [ownQueryAnnouncements, *]

@[simp] theorem ownQueryClosing_only  : OnlyChanges ps s (ownQueryClosing n u).1 ↔ OnlyChanges ps s u := by
  simp [ownQueryClosing, *]

@[simp] theorem ownLandingLockout_only (hL : Part.loop ∈ ps) : OnlyChanges ps s (ownLandingLockout m x u).1 ↔ OnlyChanges ps s u := by
  unfold ownLandingLockout setLockouts; (repeat' split) <;> simp [*]

@[simp] theorem ownDefineZone_only (hC : Part.settings ∈ ps) (hX : Part.marks ∈ ps) (hF : Part.fire ∈ ps) : OnlyChanges ps s (ownDefineZone z v u).1 ↔ OnlyChanges ps s u := by
  simp [ownDefineZone, *]

@[simp] theorem ownDefineLoopTiming_only (hC : Part.settings ∈ ps) (hX : Part.marks ∈ ps) : OnlyChanges ps s (ownDefineLoopTiming v u).1 ↔ OnlyChanges ps s u := by
  simp [ownDefineLoopTiming, *]

@[simp] theorem ownDefineBridges_only (hC : Part.settings ∈ ps) (hX : Part.marks ∈ ps) (hB : Part.bridges ∈ ps) : OnlyChanges ps s (ownDefineBridges v u).1 ↔ OnlyChanges ps s u := by
  unfold ownDefineBridges
  dsimp only
  split
  · rw [defined_only hX]
    apply OnlyChanges.iff; intro p; cases p <;> simp_all [Part.same]
  · rfl

@[simp] theorem ownDefineCode_only (hC : Part.settings ∈ ps) (hX : Part.marks ∈ ps) : OnlyChanges ps s (ownDefineCode a b c d u).1 ↔ OnlyChanges ps s u := by
  simp [ownDefineCode, *]

@[simp] theorem ownDefineStation_only (hC : Part.settings ∈ ps) (hX : Part.marks ∈ ps) (hN : Part.bells ∈ ps) : OnlyChanges ps s (ownDefineStation a b c u).1 ↔ OnlyChanges ps s u := by
  unfold ownDefineStation; (repeat' split) <;> simp [*]

@[simp] theorem ownDefineBellTiming_only (hC : Part.settings ∈ ps) (hX : Part.marks ∈ ps) : OnlyChanges ps s (ownDefineBellTiming v u).1 ↔ OnlyChanges ps s u := by
  simp [ownDefineBellTiming, *]

@[simp] theorem ownPhraseOpen_only (hP : Part.phrases ∈ ps) : OnlyChanges ps s (ownPhraseOpen a b u).1 ↔ OnlyChanges ps s u := by
  unfold ownPhraseOpen; (repeat' split) <;> simp [*]

@[simp] theorem ownPhraseData_only (hP : Part.phrases ∈ ps) : OnlyChanges ps s (ownPhraseData a b c u).1 ↔ OnlyChanges ps s u := by
  unfold ownPhraseData; (repeat' split) <;> simp [*]

@[simp] theorem ownPhraseClose_only (hP : Part.phrases ∈ ps) : OnlyChanges ps s (ownPhraseClose a u).1 ↔ OnlyChanges ps s u := by
  unfold ownPhraseClose; (repeat' split) <;> simp [*]

@[simp] theorem deletePhrase_only (hP : Part.phrases ∈ ps) : OnlyChanges ps s (deletePhrase a u) ↔ OnlyChanges ps s u := by
  simp [deletePhrase, *]

@[simp] theorem ownPhraseDelete_only (hP : Part.phrases ∈ ps) : OnlyChanges ps s (ownPhraseDelete a u).1 ↔ OnlyChanges ps s u := by
  unfold ownPhraseDelete; (repeat' split) <;> simp [*]

@[simp] theorem ownDefineEvacuation_only (hC : Part.settings ∈ ps) (hX : Part.marks ∈ ps) (hA : Part.announcer ∈ ps) (hP : Part.phrases ∈ ps) (hE : Part.events ∈ ps) : OnlyChanges ps s (ownDefineEvacuation a u).1 ↔ OnlyChanges ps s u := by
  simp [ownDefineEvacuation, *]

@[simp] theorem ownAnnounce_only (hA : Part.announcer ∈ ps) (hP : Part.phrases ∈ ps) (hE : Part.events ∈ ps) : OnlyChanges ps s (ownAnnounce a b c u).1 ↔ OnlyChanges ps s u := by
  simp [ownAnnounce, *]

@[simp] theorem cancelRecord_only (hA : Part.announcer ∈ ps) (hP : Part.phrases ∈ ps) (hE : Part.events ∈ ps) : OnlyChanges ps s (cancelRecord a u) ↔ OnlyChanges ps s u := by
  unfold cancelRecord; dsimp only; split <;> simp [*]

@[simp] theorem ownAnnounceCancel_only (hA : Part.announcer ∈ ps) (hP : Part.phrases ∈ ps) (hE : Part.events ∈ ps) : OnlyChanges ps s (ownAnnounceCancel a u).1 ↔ OnlyChanges ps s u := by
  unfold ownAnnounceCancel; (repeat' split) <;> simp [*]

@[simp] theorem ringAll_only (hN : Part.bells ∈ ps) (hE : Part.events ∈ ps) : OnlyChanges ps s (ringAll a u).1 ↔ OnlyChanges ps s u := by
  unfold ringAll; apply foldl_only; intro r x; simp [*]

@[simp] theorem ownBellRing_only (hN : Part.bells ∈ ps) (hE : Part.events ∈ ps) : OnlyChanges ps s (ownBellRing m a u).1 ↔ OnlyChanges ps s u := by
  unfold ownBellRing
  split
  · simp
  · split
    · split
      · rename_i l
        split
        · have h := ring_only (ps := ps) (s := s) (u := u) (l := l) (o := .link) (c := a) hN hE
          split <;> rename_i e <;> rw [e] at h <;> exact h
        · simp
      · dsimp only
        split <;> simp [*]
    · simp

@[simp] theorem answerLine_only (hN : Part.bells ∈ ps) : OnlyChanges ps s (answerLine a b u).1 ↔ OnlyChanges ps s u := by
  unfold answerLine
  dsimp only
  rw [forEach_only, removeCalls_only hN]
  intro x t; simp [*]

@[simp] theorem answerLines_only (hN : Part.bells ∈ ps) : OnlyChanges ps s (answerLines a b u).1 ↔ OnlyChanges ps s u := by
  unfold answerLines; apply foldl_only; intro r x; simp [*]

@[simp] theorem ownBellAnswer_only (hN : Part.bells ∈ ps) : OnlyChanges ps s (ownBellAnswer m a u).1 ↔ OnlyChanges ps s u := by
  unfold ownBellAnswer; (repeat' split) <;> simp [*]

@[simp] theorem ownBellSilence_only (hN : Part.bells ∈ ps) : OnlyChanges ps s (ownBellSilence m u).1 ↔ OnlyChanges ps s u := by
  unfold ownBellSilence
  split
  · simp
  · split
    · simp
    · dsimp only
      apply forEach_only
      intro x t
      unfold silenceLine
      split <;> simp [*]

theorem newGeometry_only (hC : Part.settings ∈ ps) (hX : Part.marks ∈ ps) (hL : Part.loop ∈ ps) (hS : Part.shutters ∈ ps) (hB : Part.bridges ∈ ps) (hE : Part.events ∈ ps)
    (hf : ∀ w, OnlyChanges ps s w → OnlyChanges ps s (finish w)) (h : OnlyChanges ps s u) :
    OnlyChanges ps s (newGeometry g u).1 := by
  unfold newGeometry; (try simp only [finishing]); (repeat' split) <;> first | (apply hf; simp [*]) | simp [*]

theorem ownDefineLoop_only (hC : Part.settings ∈ ps) (hX : Part.marks ∈ ps) (hL : Part.loop ∈ ps) (hS : Part.shutters ∈ ps) (hB : Part.bridges ∈ ps) (hE : Part.events ∈ ps)
    (hf : ∀ w, OnlyChanges ps s w → OnlyChanges ps s (finish w)) (h : OnlyChanges ps s u) :
    OnlyChanges ps s (ownDefineLoop a b c u).1 := by
  unfold ownDefineLoop
  split
  · exact newGeometry_only hC hX hL hS hB hE hf h
  · exact h

theorem ownDefineOpening_only (hC : Part.settings ∈ ps) (hX : Part.marks ∈ ps) (hL : Part.loop ∈ ps) (hS : Part.shutters ∈ ps) (hB : Part.bridges ∈ ps) (hE : Part.events ∈ ps)
    (hf : ∀ w, OnlyChanges ps s w → OnlyChanges ps s (finish w)) (h : OnlyChanges ps s u) :
    OnlyChanges ps s (ownDefineOpening a b c d u).1 := by
  unfold ownDefineOpening
  split
  · exact h
  · split
    · exact newGeometry_only hC hX hL hS hB hE hf h
    · exact h

/-- R32: a start that has passed its tests changes what its effect changes. -/
theorem testedStart_only {f : State → State} (hf : ∀ w, OnlyChanges ps s w → OnlyChanges ps s (finish w))
    (hk : ∀ w, OnlyChanges ps s w → OnlyChanges ps s (f w)) (h : OnlyChanges ps s u) :
    OnlyChanges ps s (testedStart f u).1 := by
  unfold testedStart
  split
  · exact h
  · exact hf _ (hk _ h)

/-- R32: a start from rest changes what its effect changes. -/
theorem startFromRest_only {f : State → State} (hf : ∀ w, OnlyChanges ps s w → OnlyChanges ps s (finish w))
    (hk : ∀ w, OnlyChanges ps s w → OnlyChanges ps s (f w)) (h : OnlyChanges ps s u) :
    OnlyChanges ps s (startFromRest f u).1 := by
  unfold startFromRest
  split
  · exact h
  · exact testedStart_only hf hk h

theorem ownLoopStart_only (hL : Part.loop ∈ ps) (hS : Part.shutters ∈ ps) (hB : Part.bridges ∈ ps) (hE : Part.events ∈ ps)
    (hf : ∀ w, OnlyChanges ps s w → OnlyChanges ps s (finish w)) (h : OnlyChanges ps s u) :
    OnlyChanges ps s (ownLoopStart u).1 := by
  unfold ownLoopStart
  split
  · exact h
  · (repeat' split) <;> first
      | exact h
      | exact startFromRest_only hf (fun w hw => by simp [enterReferencing, closeRun, *]) h
      | exact startFromRest_only hf (fun w hw => by simp [closeRun, *]) h
      | exact testedStart_only hf (fun w hw => by simp [*]) h

theorem ownLoopDrain_only (hL : Part.loop ∈ ps) (hS : Part.shutters ∈ ps) (hB : Part.bridges ∈ ps) (hE : Part.events ∈ ps)
    (hf : ∀ w, OnlyChanges ps s w → OnlyChanges ps s (finish w)) (h : OnlyChanges ps s u) :
    OnlyChanges ps s (ownLoopDrain u).1 := by
  unfold ownLoopDrain
  have k := takeDrain_only (ps := ps) (s := s) (u := u) hL hS hB hE
  split <;> rename_i e <;> rw [e] at k
  · dsimp only
    split
    · exact hf _ (k.2 h)
    · exact k.2 h
  · exact h

theorem ownLoopStop_only (hL : Part.loop ∈ ps) (hS : Part.shutters ∈ ps) (hB : Part.bridges ∈ ps) (hE : Part.events ∈ ps)
    (hf : ∀ w, OnlyChanges ps s w → OnlyChanges ps s (finish w)) (h : OnlyChanges ps s u) :
    OnlyChanges ps s (ownLoopStop n u).1 := by
  unfold ownLoopStop; (try simp only [finishing]); (repeat' split) <;> first | (apply hf; simp [*]) | simp [*]

theorem ownLoopCreep_only (hL : Part.loop ∈ ps) (hS : Part.shutters ∈ ps) (hB : Part.bridges ∈ ps) (hE : Part.events ∈ ps)
    (hf : ∀ w, OnlyChanges ps s w → OnlyChanges ps s (finish w)) (h : OnlyChanges ps s u) :
    OnlyChanges ps s (ownLoopCreep u).1 := by
  unfold ownLoopCreep
  split
  · exact testedStart_only hf (fun w hw => by simp [*]) h
  · exact h

theorem clearLoopFault_only (hL : Part.loop ∈ ps) (hS : Part.shutters ∈ ps) (hB : Part.bridges ∈ ps) (hE : Part.events ∈ ps)
    (hf : ∀ w, OnlyChanges ps s w → OnlyChanges ps s (finish w)) (h : OnlyChanges ps s u) :
    OnlyChanges ps s (clearLoopFault u).1 := by
  unfold clearLoopFault; (try simp only [finishing]); (repeat' split) <;> first | (apply hf; simp [*]) | simp [*]

theorem ownFireReset_only (hF : Part.fire ∈ ps) (hS : Part.shutters ∈ ps) (hB : Part.bridges ∈ ps) (hN : Part.bells ∈ ps) (hP : Part.phrases ∈ ps) (hA : Part.announcer ∈ ps) (hE : Part.events ∈ ps)
    (hf : ∀ w, OnlyChanges ps s w → OnlyChanges ps s (finish w)) (h : OnlyChanges ps s u) :
    OnlyChanges ps s (ownFireReset u).1 := by
  unfold ownFireReset
  split
  · exact h
  · split
    · simp only [finishing]
      exact hf _ ((clearLatch_only hS hB hN hP hA hE hF).2 h)
    · exact h

@[simp] theorem writeShutter_only {i : Nat} {d : ShutterDef} (hC : Part.settings ∈ ps) (hS : Part.shutters ∈ ps)
    (hB : Part.bridges ∈ ps) (hE : Part.events ∈ ps) :
    OnlyChanges ps s (writeShutter i d u) ↔ OnlyChanges ps s u := by
  have k (v : State) : OnlyChanges ps s (placeAgain i v) ↔ OnlyChanges ps s v := by
    unfold placeAgain
    (repeat' split) <;> simp [*]
  have m (v : State) : OnlyChanges ps s (createShutter i v) ↔ OnlyChanges ps s v := by
    unfold createShutter
    dsimp only
    split <;> simp [*]
  unfold writeShutter
  dsimp only
  split
  · split
    · rw [offerFire_only hS hB hE, k, set_cfg_only hC]
    · rw [k, set_cfg_only hC]
  · rw [m, set_cfg_only hC]

theorem ownDefineShutter_only (hC : Part.settings ∈ ps) (hX : Part.marks ∈ ps) (hS : Part.shutters ∈ ps) (hB : Part.bridges ∈ ps) (hE : Part.events ∈ ps)
    (hf : ∀ w, OnlyChanges ps s w → OnlyChanges ps s (finish w)) (h : OnlyChanges ps s u) :
    OnlyChanges ps s (ownDefineShutter i v u).1 := by
  unfold ownDefineShutter
  simp only [finishing]
  (repeat' split) <;> first | (apply hf; simp [*]) | simp [*]

theorem moveOne_only (hS : Part.shutters ∈ ps) (hB : Part.bridges ∈ ps) (hE : Part.events ∈ ps)
    (hf : ∀ w, OnlyChanges ps s w → OnlyChanges ps s (finish w)) (h : OnlyChanges ps s u) :
    OnlyChanges ps s (moveOne d i u).1 := by
  unfold moveOne
  have k := offerDemand_only (ps := ps) (s := s) (u := u) (i := i) (d := d) (c := .host) hS hB hE
  split <;> rename_i e <;> rw [e] at k
  · exact h
  · exact hf _ (k.2 h)

theorem moveMany_only (hS : Part.shutters ∈ ps) (hB : Part.bridges ∈ ps) (hE : Part.events ∈ ps)
    (hf : ∀ w, OnlyChanges ps s w → OnlyChanges ps s (finish w)) (h : OnlyChanges ps s u) :
    OnlyChanges ps s (moveMany d ids u).1 := by
  unfold moveMany; apply hf; simp [*]

theorem ownMove_only (hS : Part.shutters ∈ ps) (hB : Part.bridges ∈ ps) (hE : Part.events ∈ ps)
    (hf : ∀ w, OnlyChanges ps s w → OnlyChanges ps s (finish w)) (h : OnlyChanges ps s u) :
    OnlyChanges ps s (ownMove d k m u).1 := by
  unfold ownMove moveShutters
  (repeat' split) <;> first
    | exact h
    | exact moveOne_only hS hB hE hf h
    | exact moveMany_only hS hB hE hf h

theorem ownShutterTest_only (hS : Part.shutters ∈ ps) (hB : Part.bridges ∈ ps) (hE : Part.events ∈ ps)
    (hf : ∀ w, OnlyChanges ps s w → OnlyChanges ps s (finish w)) (h : OnlyChanges ps s u) :
    OnlyChanges ps s (ownShutterTest i u).1 := by
  unfold ownShutterTest; (try simp only [finishing]); (repeat' split) <;> first | (apply hf; simp [*]) | simp [*]

@[simp] theorem clearShutter_only {i : Nat} (hS : Part.shutters ∈ ps) (hB : Part.bridges ∈ ps)
    (hE : Part.events ∈ ps) : OnlyChanges ps s (clearShutter i u) ↔ OnlyChanges ps s u := by
  simp [clearShutter, *]

@[simp] theorem restoreBridge_only {b : Nat} (hB : Part.bridges ∈ ps) :
    OnlyChanges ps s (restoreBridge b u) ↔ OnlyChanges ps s u := by
  simp [restoreBridge, *]

theorem clearShutterFaults_only (hS : Part.shutters ∈ ps) (hB : Part.bridges ∈ ps) (hE : Part.events ∈ ps)
    (hf : ∀ w, OnlyChanges ps s w → OnlyChanges ps s (finish w)) (h : OnlyChanges ps s u) :
    OnlyChanges ps s (clearShutterFaults m u).1 := by
  unfold clearShutterFaults
  simp only [finishing]
  (repeat' split) <;> first
    | (apply hf; rw [forEach_only]; · exact h
       intro x t; simp [*])
    | (apply hf; simp [*])
    | exact h

theorem clearBridgeFaults_only (hB : Part.bridges ∈ ps)
    (hf : ∀ w, OnlyChanges ps s w → OnlyChanges ps s (finish w)) (h : OnlyChanges ps s u) :
    OnlyChanges ps s (clearBridgeFaults m u).1 := by
  unfold clearBridgeFaults
  simp only [finishing]
  (repeat' split) <;> first
    | (apply hf; rw [forEach_only]; · exact h
       intro x t; simp [*])
    | (apply hf; simp [*])
    | exact h

theorem ownClearFaults_only (hL : Part.loop ∈ ps) (hS : Part.shutters ∈ ps) (hB : Part.bridges ∈ ps) (hE : Part.events ∈ ps)
    (hf : ∀ w, OnlyChanges ps s w → OnlyChanges ps s (finish w)) (h : OnlyChanges ps s u) :
    OnlyChanges ps s (ownClearFaults k m u).1 := by
  unfold ownClearFaults
  split
  · exact clearLoopFault_only hL hS hB hE hf h
  · exact clearShutterFaults_only hS hB hE hf h
  · exact clearBridgeFaults_only hB hf h
  · exact h

@[simp] theorem ownSetClock_only (hL : Part.loop ∈ ps) (hS : Part.shutters ∈ ps) (hB : Part.bridges ∈ ps) (hN : Part.bells ∈ ps) (hP : Part.phrases ∈ ps) (hA : Part.announcer ∈ ps) (hG : Part.programme ∈ ps) (hE : Part.events ∈ ps) (hK : Part.clock ∈ ps) : OnlyChanges ps s (ownSetClock a b u).1 ↔ OnlyChanges ps s u := by
  unfold ownSetClock; simp only [finishing]; (repeat' split) <;> simp [*]

@[simp] theorem armAgain_only (hL : Part.loop ∈ ps) (hS : Part.shutters ∈ ps) (hB : Part.bridges ∈ ps)
    (hN : Part.bells ∈ ps) (hP : Part.phrases ∈ ps) (hA : Part.announcer ∈ ps) (hG : Part.programme ∈ ps)
    (hE : Part.events ∈ ps) : OnlyChanges ps s (armAgain u) ↔ OnlyChanges ps s u := by
  unfold armAgain
  split <;> simp [*]

@[simp] theorem ownDefineClosingTimes_only (hC : Part.settings ∈ ps) (hX : Part.marks ∈ ps) (hL : Part.loop ∈ ps) (hS : Part.shutters ∈ ps) (hB : Part.bridges ∈ ps) (hN : Part.bells ∈ ps) (hP : Part.phrases ∈ ps) (hA : Part.announcer ∈ ps) (hG : Part.programme ∈ ps) (hE : Part.events ∈ ps) : OnlyChanges ps s (ownDefineClosingTimes a u).1 ↔ OnlyChanges ps s u := by
  unfold ownDefineClosingTimes; simp only [finishing]; (repeat' split) <;> simp [*]

@[simp] theorem ownClosingStart_only (hL : Part.loop ∈ ps) (hS : Part.shutters ∈ ps) (hB : Part.bridges ∈ ps) (hN : Part.bells ∈ ps) (hP : Part.phrases ∈ ps) (hA : Part.announcer ∈ ps) (hG : Part.programme ∈ ps) (hE : Part.events ∈ ps) : OnlyChanges ps s (ownClosingStart u).1 ↔ OnlyChanges ps s u := by
  unfold ownClosingStart; simp only [finishing]; (repeat' split) <;> simp [*]

@[simp] theorem ownClosingDelay_only (hL : Part.loop ∈ ps) (hS : Part.shutters ∈ ps) (hB : Part.bridges ∈ ps) (hN : Part.bells ∈ ps) (hP : Part.phrases ∈ ps) (hA : Part.announcer ∈ ps) (hG : Part.programme ∈ ps) (hE : Part.events ∈ ps) : OnlyChanges ps s (ownClosingDelay a u).1 ↔ OnlyChanges ps s u := by
  unfold ownClosingDelay; simp only [finishing]; (repeat' split) <;> simp [*]

@[simp] theorem ownClosingAbort_only (hL : Part.loop ∈ ps) (hS : Part.shutters ∈ ps) (hB : Part.bridges ∈ ps) (hN : Part.bells ∈ ps) (hP : Part.phrases ∈ ps) (hA : Part.announcer ∈ ps) (hG : Part.programme ∈ ps) (hE : Part.events ∈ ps) : OnlyChanges ps s (ownClosingAbort u).1 ↔ OnlyChanges ps s u := by
  unfold ownClosingAbort; simp only [finishing]; (repeat' split) <;> simp [*]

@[simp] theorem ownDefineStep_only (hC : Part.settings ∈ ps) (hX : Part.marks ∈ ps) (hL : Part.loop ∈ ps) (hS : Part.shutters ∈ ps) (hB : Part.bridges ∈ ps) (hN : Part.bells ∈ ps) (hP : Part.phrases ∈ ps) (hA : Part.announcer ∈ ps) (hG : Part.programme ∈ ps) (hE : Part.events ∈ ps) : OnlyChanges ps s (ownDefineStep k x u).1 ↔ OnlyChanges ps s u := by
  unfold ownDefineStep
  simp only [finishing]
  (repeat' split) <;> simp [*]

@[simp] theorem advanceChain_only (hL : Part.loop ∈ ps) (hS : Part.shutters ∈ ps) (hB : Part.bridges ∈ ps) (hE : Part.events ∈ ps) : OnlyChanges ps s (advanceChain u) ↔ OnlyChanges ps s u := by
  simp [advanceChain, *]

@[simp] theorem countPulse_only (hL : Part.loop ∈ ps) (hS : Part.shutters ∈ ps) (hB : Part.bridges ∈ ps) (hE : Part.events ∈ ps) : OnlyChanges ps s (countPulse u) ↔ OnlyChanges ps s u := by
  unfold countPulse
  dsimp only
  rw [checkDrift_only hL hS hB hE, checkCreep_only hL hS hB hE, checkCommand_only hL hS hB hE, drainPulse_only hL hS hB hE,
    forEach_only, advanceChain_only hL hS hB hE]
  intro x t; simp [*]

@[simp] theorem countReferencing_only (hL : Part.loop ∈ ps) (hS : Part.shutters ∈ ps) (hB : Part.bridges ∈ ps) (hE : Part.events ∈ ps) : OnlyChanges ps s (countReferencing u) ↔ OnlyChanges ps s u := by
  simp [countReferencing, *]

@[simp] theorem pitchCheck_only (hL : Part.loop ∈ ps) (hS : Part.shutters ∈ ps) (hB : Part.bridges ∈ ps) (hE : Part.events ∈ ps) : OnlyChanges ps s (pitchCheck u) ↔ OnlyChanges ps s u := by
  unfold pitchCheck; (repeat' split) <;> simp [*]

@[simp] theorem measurePitch_only (hL : Part.loop ∈ ps) : OnlyChanges ps s (measurePitch u) ↔ OnlyChanges ps s u := by
  simp [measurePitch, *]

@[simp] theorem superviseWindow_only (hL : Part.loop ∈ ps) (hS : Part.shutters ∈ ps) (hB : Part.bridges ∈ ps) (hE : Part.events ∈ ps) : OnlyChanges ps s (superviseWindow u) ↔ OnlyChanges ps s u := by
  unfold superviseWindow; (try dsimp only); (repeat' split) <;> simp [*]

@[simp] theorem startedAtPitch_only (hL : Part.loop ∈ ps) (hS : Part.shutters ∈ ps) (hB : Part.bridges ∈ ps) (hE : Part.events ∈ ps) : OnlyChanges ps s (startedAtPitch u) ↔ OnlyChanges ps s u := by
  simp [startedAtPitch, *]

@[simp] theorem pitchPulse_only (hL : Part.loop ∈ ps) (hS : Part.shutters ∈ ps) (hB : Part.bridges ∈ ps) (hE : Part.events ∈ ps) : OnlyChanges ps s (pitchPulse u) ↔ OnlyChanges ps s u := by
  simp [pitchPulse, *]

@[simp] theorem datumFound_only (hL : Part.loop ∈ ps) (hS : Part.shutters ∈ ps) (hB : Part.bridges ∈ ps) (hE : Part.events ∈ ps) : OnlyChanges ps s (datumFound u) ↔ OnlyChanges ps s u := by
  unfold datumFound; (repeat' split) <;> simp [*]

@[simp] theorem datumPulse_only (hL : Part.loop ∈ ps) (hS : Part.shutters ∈ ps) (hB : Part.bridges ∈ ps) (hE : Part.events ∈ ps) : OnlyChanges ps s (datumPulse u) ↔ OnlyChanges ps s u := by
  simp [datumPulse, *]

@[simp] theorem confirmStandstill_only (hL : Part.loop ∈ ps) (hS : Part.shutters ∈ ps) (hB : Part.bridges ∈ ps) (hE : Part.events ∈ ps) : OnlyChanges ps s (confirmStandstill u) ↔ OnlyChanges ps s u := by
  unfold confirmStandstill; (try dsimp only); (repeat' split) <;> simp [*]

@[simp] theorem windowExpired_only (hL : Part.loop ∈ ps) (hS : Part.shutters ∈ ps) (hB : Part.bridges ∈ ps) (hE : Part.events ∈ ps) : OnlyChanges ps s (windowExpired u) ↔ OnlyChanges ps s u := by
  unfold windowExpired; (try dsimp only); (repeat' split) <;> simp [*]

@[simp] theorem drainExpired_only (hL : Part.loop ∈ ps) (hS : Part.shutters ∈ ps) (hB : Part.bridges ∈ ps) (hE : Part.events ∈ ps) : OnlyChanges ps s (drainExpired u) ↔ OnlyChanges ps s u := by
  unfold drainExpired; (try dsimp only); (repeat' split) <;> simp [*]

@[simp] theorem creepDelayExpired_only (hL : Part.loop ∈ ps) (hS : Part.shutters ∈ ps) (hB : Part.bridges ∈ ps) (hE : Part.events ∈ ps) : OnlyChanges ps s (creepDelayExpired u) ↔ OnlyChanges ps s u := by
  unfold creepDelayExpired; (try dsimp only); (repeat' split) <;> simp [*]

@[simp] theorem graceElapsed_only (hB : Part.bridges ∈ ps) : OnlyChanges ps s (graceElapsed b u) ↔ OnlyChanges ps s u := by
  simp [graceElapsed, *]

@[simp] theorem travelExpired_only (hS : Part.shutters ∈ ps) (hB : Part.bridges ∈ ps) (hE : Part.events ∈ ps) : OnlyChanges ps s (travelExpired i u) ↔ OnlyChanges ps s u := by
  simp [travelExpired, *]

@[simp] theorem retryExpired_only (hS : Part.shutters ∈ ps) (hB : Part.bridges ∈ ps) (hE : Part.events ∈ ps) : OnlyChanges ps s (retryExpired i u) ↔ OnlyChanges ps s u := by
  simp [retryExpired, *]

@[simp] theorem pauseExpired_only (hS : Part.shutters ∈ ps) (hB : Part.bridges ∈ ps) (hE : Part.events ∈ ps) : OnlyChanges ps s (pauseExpired i u) ↔ OnlyChanges ps s u := by
  simp [pauseExpired, *]

@[simp] theorem dwellExpired_only (hS : Part.shutters ∈ ps) (hB : Part.bridges ∈ ps) (hE : Part.events ∈ ps) : OnlyChanges ps s (dwellExpired b u) ↔ OnlyChanges ps s u := by
  unfold dwellExpired; split <;> simp [*]

@[simp] theorem sweepExpired_only (hB : Part.bridges ∈ ps) : OnlyChanges ps s (sweepExpired u) ↔ OnlyChanges ps s u := by
  apply OnlyChanges.iff; intro p; cases p <;> simp_all [Part.same, sweepExpired]

@[simp] theorem streamDone_only (hP : Part.phrases ∈ ps) (hI : Part.line ∈ ps) (hE : Part.events ∈ ps) (hX : Part.marks ∈ ps) : OnlyChanges ps s (streamDone k u) ↔ OnlyChanges ps s u := by
  unfold streamDone
  (repeat' split) <;> first
    | (rw [replyNow_only hI]
       apply OnlyChanges.iff; intro p; cases p <;> simp_all [Part.same]
       done)
    | simp [*]

@[simp] theorem writeDone_only (hO : Part.store ∈ ps) (hP : Part.phrases ∈ ps) (hI : Part.line ∈ ps) (hE : Part.events ∈ ps) (hX : Part.marks ∈ ps) : OnlyChanges ps s (writeDone u) ↔ OnlyChanges ps s u := by
  unfold writeDone; (try dsimp only); (repeat' split) <;> simp [*]

@[simp] theorem audioSample_only (hT : Part.clockwork ∈ ps) (hA : Part.announcer ∈ ps) : OnlyChanges ps s (audioSample u) ↔ OnlyChanges ps s u := by
  unfold audioSample
  dsimp only
  rw [sampleChannel_only hA, sampleChannel_only hA]
  apply OnlyChanges.iff; intro p; cases p <;> simp_all [Part.same]

@[simp] theorem tick_only (hL : Part.loop ∈ ps) (hS : Part.shutters ∈ ps) (hB : Part.bridges ∈ ps) (hN : Part.bells ∈ ps) (hP : Part.phrases ∈ ps) (hA : Part.announcer ∈ ps) (hG : Part.programme ∈ ps) (hE : Part.events ∈ ps) (hK : Part.clock ∈ ps) (hT : Part.clockwork ∈ ps) : OnlyChanges ps s (tick u) ↔ OnlyChanges ps s u := by
  simp [tick, *]

@[simp] theorem conversion_only (hT : Part.clockwork ∈ ps) (hF : Part.fire ∈ ps) (hL : Part.loop ∈ ps) (hS : Part.shutters ∈ ps) (hB : Part.bridges ∈ ps) (hN : Part.bells ∈ ps) (hP : Part.phrases ∈ ps) (hA : Part.announcer ∈ ps) (hG : Part.programme ∈ ps) (hE : Part.events ∈ ps) : OnlyChanges ps s (conversion n u) ↔ OnlyChanges ps s u := by
  unfold conversion
  dsimp only
  split
  · rw [zoneSample_only hL hS hB hN hP hA hG hE hF, modFire_only hF]
    apply OnlyChanges.iff; intro p; cases p <;> simp_all [Part.same]
  · rw [currentReading_only hS hB hE, modFire_only hF]
    apply OnlyChanges.iff; intro p; cases p <;> simp_all [Part.same]

end Sys2Proof.Laws
end

