-- ==== Sys2Proof/Laws/Loop.lean ====
section
/-! SUPPORT. What the shared operations of the loop do, field by field: the re-examination of held demands and the service of
the bridges leave the loop alone, a change of loop state changes four fields of it, and the event queue only grows. -/

namespace Sys2Proof.Laws

open Sys2Proof.Machine Sys2Proof.Safety

variable {s t u : State}

/-! ### What a frame says of each field -/

theorem OnlyChanges.loop_eq {ps : List Safety.Part} (h : OnlyChanges ps s t) (hp : Part.loop ∉ ps) : t.loop = s.loop :=
  (h .loop).resolve_left hp

theorem OnlyChanges.cfg_eq {ps : List Safety.Part} (h : OnlyChanges ps s t) (hp : Part.settings ∉ ps) : t.cfg = s.cfg :=
  (h .settings).resolve_left hp

theorem OnlyChanges.field_eq {ps : List Safety.Part} (h : OnlyChanges ps s t) (hp : Part.field ∉ ps) : t.field = s.field :=
  (h .field).resolve_left hp

theorem OnlyChanges.fire_eq {ps : List Safety.Part} (h : OnlyChanges ps s t) (hp : Part.fire ∉ ps) : t.fire = s.fire :=
  (h .fire).resolve_left hp

theorem OnlyChanges.prog_eq {ps : List Safety.Part} (h : OnlyChanges ps s t) (hp : Part.programme ∉ ps) : t.prog = s.prog :=
  (h .programme).resolve_left hp

theorem OnlyChanges.clock_eq {ps : List Safety.Part} (h : OnlyChanges ps s t) (hp : Part.clock ∉ ps) : t.clock = s.clock :=
  (h .clock).resolve_left hp

theorem OnlyChanges.now_eq {ps : List Safety.Part} (h : OnlyChanges ps s t) (hp : Part.clockwork ∉ ps) :
    t.time.now = s.time.now := ((h .clockwork).resolve_left hp).1

theorem OnlyChanges.events_eq {ps : List Safety.Part} (h : OnlyChanges ps s t) (hp : Part.events ∉ ps) :
    t.link.events = s.link.events := ((h .events).resolve_left hp).1

/-! ### The re-examination and the service of the bridges -/

theorem reexamine_frame : OnlyChanges shutterParts s (reexamine s) :=
  (reexamine_only (by simp [shutterParts]) (by simp [shutterParts]) (by simp [shutterParts])).2 (OnlyChanges.refl _ _)

theorem serveBridges_frame : OnlyChanges grantParts s (serveBridges s) :=
  (serveBridges_only (by simp [grantParts]) (by simp [grantParts])).2 (OnlyChanges.refl _ _)

@[simp] theorem reexamine_loop : (reexamine s).loop = s.loop := OnlyChanges.loop_eq reexamine_frame (by decide)
@[simp] theorem reexamine_cfg : (reexamine s).cfg = s.cfg := OnlyChanges.cfg_eq reexamine_frame (by decide)
@[simp] theorem reexamine_field : (reexamine s).field = s.field := OnlyChanges.field_eq reexamine_frame (by decide)
@[simp] theorem reexamine_fire : (reexamine s).fire = s.fire := OnlyChanges.fire_eq reexamine_frame (by decide)
@[simp] theorem reexamine_prog : (reexamine s).prog = s.prog := OnlyChanges.prog_eq reexamine_frame (by decide)
@[simp] theorem reexamine_clock : (reexamine s).clock = s.clock := OnlyChanges.clock_eq reexamine_frame (by decide)
@[simp] theorem reexamine_now : (reexamine s).time.now = s.time.now := OnlyChanges.now_eq reexamine_frame (by decide)

@[simp] theorem serveBridges_loop : (serveBridges s).loop = s.loop := OnlyChanges.loop_eq serveBridges_frame (by decide)
@[simp] theorem serveBridges_cfg : (serveBridges s).cfg = s.cfg := OnlyChanges.cfg_eq serveBridges_frame (by decide)
@[simp] theorem serveBridges_field : (serveBridges s).field = s.field := OnlyChanges.field_eq serveBridges_frame (by decide)
@[simp] theorem serveBridges_fire : (serveBridges s).fire = s.fire := OnlyChanges.fire_eq serveBridges_frame (by decide)
@[simp] theorem serveBridges_prog : (serveBridges s).prog = s.prog := OnlyChanges.prog_eq serveBridges_frame (by decide)
@[simp] theorem serveBridges_clock : (serveBridges s).clock = s.clock := OnlyChanges.clock_eq serveBridges_frame (by decide)
@[simp] theorem serveBridges_now : (serveBridges s).time.now = s.time.now := OnlyChanges.now_eq serveBridges_frame (by decide)
@[simp] theorem serveBridges_events : (serveBridges s).link.events = s.link.events :=
  OnlyChanges.events_eq serveBridges_frame (by decide)

/-! ### The event queue only grows -/

/-- Every record queued in `s` stands in `t`, in its place. -/
def Grows (s t : State) : Prop := s.link.events <+: t.link.events

theorem Grows.refl (s : State) : Grows s s := List.prefix_refl _
theorem Grows.trans {s t u : State} (h : Grows s t) (k : Grows t u) : Grows s u := List.IsPrefix.trans h k
theorem Grows.of_eq {s t : State} (h : t.link.events = s.link.events) : Grows s t := by
  unfold Grows; rw [h]

theorem grows_queueEvent {k : EventKind} {x : Option Nat} {d : Nat} : Grows s (queueEvent k x d s) := by
  unfold Grows queueEvent
  split
  · exact List.prefix_append _ _
  · exact List.prefix_refl _

theorem grows_forEach {α : Type} {f : α → State → State} (h : ∀ a s, Grows s (f a s)) (xs : List α) (s : State) :
    Grows s (forEach xs f s) := by
  unfold forEach
  induction xs generalizing s with
  | nil => exact Grows.refl s
  | cons x xs ih => exact (h x s).trans (ih _)

theorem grows_holdByLoop {i k : Nat} : Grows s (holdByLoop i k s) :=
  (Grows.of_eq (t := setStatus i .heldByLoop s) rfl).trans grows_queueEvent

theorem grows_toBridge {i : Nat} : Grows s (toBridge i s) := by
  unfold toBridge; split <;> exact Grows.of_eq rfl

theorem grows_reexamine : Grows s (reexamine s) := by
  unfold reexamine
  apply grows_forEach
  intro i u
  (repeat' split) <;> first | exact Grows.refl _ | exact grows_toBridge | exact grows_holdByLoop

/-- R195: the event queued now stands right after those of `s` in every state whose queue has grown from it. -/
theorem queued_of_grows {k : EventKind} {x : Option Nat} {d : Nat} {u : State} (he : u.link.events = s.link.events)
    (hc : u.clock = s.clock) (h : Grows (queueEvent k x d u) t) : Queued k x d s t := by
  intro hl
  unfold Grows queueEvent at h
  rw [if_pos (by rw [he]; exact hl)] at h
  simpa [he, clockTime, hc] using h

/-! ### The loop record -/

/-- The loop record after a change of loop state: only the state, the creep-exhausted flag, the creep delay and the window
timer may change (R25, R47). -/
@[simp] theorem enterState_loop (st : LoopState) :
    (enterState st s).loop =
      { s.loop with
        st
        exhausted := if st = .stoppedFoul then s.loop.exhausted else false
        creepDelay := if st = .stoppedFoul then s.loop.creepDelay else none
        window :=
          match st with
          | .referencing | .starting | .running | .draining | .stopping | .creeping => s.loop.window
          | .unconfigured | .unreferenced | .braking | .parked | .stoppedFoul | .faultStop => none } := by
  simp only [enterState, reexamine_loop, modLoop_loop, contactorClosed, runClosed, creepClosed]
  cases st <;> simp

theorem grows_enterState {st : LoopState} : Grows s (enterState st s) := by
  unfold enterState
  dsimp only
  refine Grows.trans ?_ grows_reexamine
  exact Grows.of_eq rfl

@[simp] theorem enterState_cfg {st : LoopState} : (enterState st s).cfg = s.cfg := by simp [enterState]
@[simp] theorem enterState_field {st : LoopState} : (enterState st s).field = s.field := by simp [enterState]
@[simp] theorem enterState_fire {st : LoopState} : (enterState st s).fire = s.fire := by simp [enterState]
@[simp] theorem enterState_prog {st : LoopState} : (enterState st s).prog = s.prog := by simp [enterState]
@[simp] theorem enterState_clock {st : LoopState} : (enterState st s).clock = s.clock := by simp [enterState]
@[simp] theorem enterState_now {st : LoopState} : (enterState st s).time.now = s.time.now := by simp [enterState]

theorem grows_serveBridges : Grows s (serveBridges s) := Grows.of_eq serveBridges_events

/-- R50: a loop fault in a state that takes it: what stands in the loop record afterwards. -/
theorem loopFault_loop {cause : LoopCause} {x : Option Nat} (h : s.loop.st ≠ .unconfigured) (h' : s.loop.st ≠ .faultStop) :
    (loopFault cause x s).loop =
      { s.loop with
        st := .faultStop, refValid := false, cars := s.loop.cars.map (fun _ => Occ.unknown)
        watches := Tab.fill 16 .idle, recognisers := s.loop.recognisers.map Recogniser.loseReference
        fault := some { cause, subject := x }, plan := none, creepPlan := none, drain := none, drainTimer := none
        refStop := .none, fireDrainPending := false, creepDelay := none, exhausted := false, window := none } := by
  have hq : ∀ k y d (u : State), (queueEvent k y d u).loop = u.loop := by
    intros; unfold queueEvent; split <;> rfl
  unfold loopFault
  rw [if_neg (by simp [h, h'])]
  rw [enterState_loop, hq]
  simp [loseReference]

/-- A fault in UNCONFIGURED or FAULT_STOP is not taken (R50). -/
theorem loopFault_ignored {cause : LoopCause} {x : Option Nat} (h : s.loop.st = .unconfigured ∨ s.loop.st = .faultStop) :
    loopFault cause x s = s := by
  unfold loopFault; rw [if_pos h]

/-- R50: LOOP_FAULT is queued with the cause as detail. -/
theorem loopFault_queued {cause : LoopCause} {x : Option Nat} {r : State} (h : r.loop.st ≠ .unconfigured)
    (h' : r.loop.st ≠ .faultStop) (he : r.link.events = s.link.events) (hc : r.clock = s.clock)
    (hg : Grows (loopFault cause x r) t) : Queued .loopFault x cause.code s t := by
  unfold loopFault at hg
  rw [if_neg (by simp [h, h'])] at hg
  exact queued_of_grows (by simp [loseReference, he]) (by simp [loseReference, hc]) (grows_enterState.trans hg)

end Sys2Proof.Laws
end

