-- ==== Sys2Proof/Laws/Memory.lean ====
section
/-! SUPPORT. The store memory: every operation keeps the canonical form, a read after a write gives what was written, and
a write leaves every other byte as it was. -/

namespace Sys2Proof.Laws

open Sys2Proof.Machine

theorem cellsAbove_mono {lo hi : Nat} (h : lo ≤ hi) (m : List Host.Cell) (k : cellsAbove hi m = true) :
    cellsAbove lo m = true := by
  cases m with
  | nil => rfl
  | cons c rest =>
    simp only [cellsAbove, Bool.and_eq_true, decide_eq_true_eq] at k ⊢
    exact ⟨⟨by omega, k.1.2⟩, k.2⟩

theorem readByte_below {lo : Nat} (m : List Host.Cell) (h : cellsAbove lo m = true) {a : Nat} (ha : a < lo) :
    readByte m a = Config.blankByte := by
  induction m generalizing lo with
  | nil => rfl
  | cons c rest ih =>
    simp only [cellsAbove, Bool.and_eq_true, decide_eq_true_eq] at h
    simp only [readByte]
    rw [if_neg (by omega)]
    exact ih h.2 (by omega)

theorem cellsAbove_write {lo : Nat} (m : List Host.Cell) (a : Nat) (v : Byte) (h : cellsAbove lo m = true)
    (ha : lo ≤ a) : cellsAbove lo (writeByte m a v) = true := by
  induction m generalizing lo with
  | nil => unfold writeByte; split <;> simp_all [cellsAbove]
  | cons c rest ih =>
    obtain ⟨k, w⟩ := c
    simp only [cellsAbove, Bool.and_eq_true, decide_eq_true_eq] at h
    unfold writeByte
    (repeat' split) <;> (try simp only [cellsAbove, Bool.and_eq_true, decide_eq_true_eq])
    · exact h
    · exact ⟨⟨ha, by assumption⟩, ⟨by omega, h.1.2⟩, h.2⟩
    · exact cellsAbove_mono (by omega) _ h.2
    · rename_i e _; exact ⟨⟨ha, by assumption⟩, e ▸ h.2⟩
    · exact ⟨h.1, ih h.2 (by omega)⟩

/-- A write of one byte keeps the canonical form. -/
theorem memoryWf_writeByte {m : List Host.Cell} (h : memoryWf m = true) (a : Nat) (v : Byte) :
    memoryWf (writeByte m a v) = true := cellsAbove_write m a v h (Nat.zero_le a)

/-- A write of several bytes keeps the canonical form. -/
theorem memoryWf_writeBytes {m : List Host.Cell} (h : memoryWf m = true) (a : Nat) (bs : List Byte) :
    memoryWf (writeBytes m a bs) = true := by
  induction bs generalizing m a with
  | nil => exact h
  | cons b bs ih => exact ih (memoryWf_writeByte h a b) (a + 1)

/-- What a byte of the memory reads as after a write of one byte. -/
theorem readByte_writeByte {lo : Nat} (m : List Host.Cell) (h : cellsAbove lo m = true) (a b : Nat) (v : Byte) :
    readByte (writeByte m a v) b = if b = a then v else readByte m b := by
  induction m generalizing lo with
  | nil =>
    unfold writeByte
    (repeat' split) <;> simp_all [readByte]
    intro e; omega
  | cons c rest ih =>
    obtain ⟨k, w⟩ := c
    have hc := h
    simp only [cellsAbove, Bool.and_eq_true, decide_eq_true_eq] at h
    unfold writeByte
    by_cases h1 : a < k
    · simp only [h1, if_true]
      by_cases hv : v = Config.blankByte
      · simp only [hv, if_true]
        by_cases e : b = a
        · rw [if_pos e, e]
          have hk : cellsAbove k ((k, w) :: rest) = true := by
            simp only [cellsAbove, Bool.and_eq_true, decide_eq_true_eq]; exact ⟨⟨le_refl k, h.1.2⟩, h.2⟩
          exact readByte_below _ hk h1
        · rw [if_neg e]
      · simp only [hv, if_false, readByte]
        by_cases e : b = a
        · simp [e]
        · rw [if_neg (Ne.symm e), if_neg e]
    · by_cases h2 : a = k
      · simp only [h2, lt_irrefl, if_false, if_true]
        by_cases hv : v = Config.blankByte
        · simp only [hv, if_true, readByte]
          by_cases e : b = k
          · rw [if_pos e, e]; exact readByte_below _ h.2 (by omega)
          · rw [if_neg e, if_neg (Ne.symm e)]
        · simp only [hv, if_false, readByte]
          by_cases e : b = k
          · simp [e]
          · rw [if_neg (Ne.symm e), if_neg e, if_neg (Ne.symm e)]
      · simp only [h1, h2, if_false, readByte]
        by_cases e : k = b
        · rw [if_pos e, if_pos e, if_neg (by omega)]
        · rw [if_neg e, if_neg e]; exact ih h.2

/-- What a byte reads as after a write of several bytes. -/
theorem readByte_writeBytes {m : List Host.Cell} (h : memoryWf m = true) (a b : Nat) (bs : List Byte) :
    readByte (writeBytes m a bs) b =
      if a ≤ b ∧ b < a + bs.length then bs.getD (b - a) 0#8 else readByte m b := by
  induction bs generalizing m a with
  | nil =>
    simp only [writeBytes, List.length_nil, Nat.add_zero]
    rw [if_neg (by omega)]
  | cons v bs ih =>
    simp only [writeBytes]
    rw [ih (memoryWf_writeByte h a v), readByte_writeByte m h]
    simp only [List.length_cons]
    by_cases e : b = a
    · subst e
      rw [if_neg (by omega), if_pos rfl, if_pos (by omega)]
      simp
    · by_cases k : a + 1 ≤ b ∧ b < a + 1 + bs.length
      · rw [if_pos k, if_pos (by omega)]
        have : b - a = b - (a + 1) + 1 := by omega
        rw [this]
        simp
      · rw [if_neg k, if_neg e, if_neg (by omega)]

/-- The memory a reset leaves is in canonical form. -/
theorem memoryWf_cutStore {s : State} (h : memoryWf s.store = true) : memoryWf (cutStore s) = true := by
  unfold cutStore failCheck
  dsimp only
  (repeat' split) <;> first
    | exact h
    | exact memoryWf_writeBytes h _ _
    | exact memoryWf_writeBytes (memoryWf_writeBytes h _ _) _ _

/-- The transfers of a stream keep the canonical form. -/
theorem memoryWf_chunks {m : List Host.Cell} (h : memoryWf m = true) (cs : List Chunk) :
    memoryWf (cs.foldl (fun m c => writeBytes m c.addr c.bytes) m) = true := by
  induction cs generalizing m with
  | nil => exact h
  | cons c cs ih => exact ih (memoryWf_writeBytes h c.addr c.bytes)

end Sys2Proof.Laws
end

