-- ==== Sys2Proof/Laws/Nearest.lean ====
section
/-! SUPPORT. The clear list and the search for the nearest target phase (R4, R5, R43, R48). -/

namespace Sys2Proof.Laws

open Sys2Proof.Machine Sys2Proof.Safety

/-- A target phase is a phase. -/
theorem targets_lt {g : Geometry} {q : Nat} (h : q ∈ g.targets) : q < 256 := by
  unfold Geometry.targets at h
  simp only [List.mem_filterMap] at h
  obtain ⟨a, -, h⟩ := h
  split at h
  · split at h
    · cases h; omega
    · cases h
  · cases h

/-- Inserting in order adds one member. -/
theorem mem_insertBy {α : Type} {f : α → α → Bool} {x y : α} {xs : List α} : y ∈ insertBy f x xs ↔ y = x ∨ y ∈ xs := by
  induction xs with
  | nil => simp [insertBy]
  | cons z zs ih => unfold insertBy; split <;> simp [ih]; tauto

/-- Ordering keeps the members. -/
theorem mem_orderBy {α : Type} {f : α → α → Bool} {y : α} {xs : List α} : y ∈ orderBy f xs ↔ y ∈ xs := by
  induction xs with
  | nil => simp [orderBy]
  | cons z zs ih => simp [orderBy, mem_insertBy, ih]

/-- R4, R5: every phase of the clear list is below 256. -/
theorem clearList_lt {g : Geometry} {q : Nat} (h : q ∈ g.clearList) : q < 256 := targets_lt (mem_orderBy.1 h)

/-- The circular difference of two phases leads from one to the other. -/
theorem circSub_spec (a b : Nat) (hb : b < 256) (ha : a < 256) : circSub a b 256 < 256 ∧ (b + circSub a b 256) % 256 = a := by
  unfold circSub; omega

/-- The least distance of at least `b` that leads from phase `p` to phase `t`. -/
theorem distanceAtLeast_spec {p t b : Nat} (hp : p < 256) (ht : t < 256) :
   (p + distanceAtLeast p t b) % 256 = t ∧ b ≤ distanceAtLeast p t b ∧ ∀ e, (p + e) % 256 = t → b ≤ e → distanceAtLeast p t b ≤ e := by
  have := circSub_spec t p hp ht
  unfold distanceAtLeast
  generalize circSub t p 256 = d at *
  dsimp only
  split
  · unfold ceilDiv; refine ⟨by omega, by omega, ?_⟩; intro e he hbe; omega
  · refine ⟨by omega, by omega, ?_⟩; intro e he hbe; omega

/-- R43, R48: where the clear list has a nearest target, the search finds it. -/
theorem nearestTarget_of_nearest {g : Geometry} {p b q d : Nat} (hp : p < 256) (h : Nearest g p b q d) : nearestTarget g p b = some (q, d) := by
  obtain ⟨hq, hm, hb, hmin⟩ := h
  have hl : ∀ x ∈ g.clearList, x < 256 := fun x hx => clearList_lt hx
  have key : ∀ (l : List Nat), (∀ x ∈ l, x ∈ g.clearList) → ∀ best : Option (Nat × Nat), 
     (∀ r e, best = some (r, e) → r ∈ g.clearList ∧ (p + e) % 256 = r ∧ b ≤ e) → 
     (q ∈ l ∨ best = some (q, d)) →
     l.foldl (fun best t =>
    let d := distanceAtLeast p t b
    match best with
    | none => some (t, d)
    | some (t0, d0) => if d < d0 then some (t, d) else some (t0, d0)) best = some (q, d) := by
    intro l
    induction l with
    | nil => intro _ best _ h2; simpa using h2
    | cons x xs ih =>
      intro hx best hbst h2
      have hxc := hx x (by simp)
      obtain ⟨s1, s2, s3⟩ := distanceAtLeast_spec (b := b) hp (hl x hxc)
      simp only [List.foldl_cons]
      apply ih (fun y hy => hx y (by simp [hy]))
      · intro r e hre
        rcases best with _ | ⟨t0, d0⟩
        · simp at hre; obtain ⟨rfl, rfl⟩ := hre; exact ⟨hxc, s1, s2⟩
        · simp only at hre
          split at hre
          · simp at hre; obtain ⟨rfl, rfl⟩ := hre; exact ⟨hxc, s1, s2⟩
          · simp at hre; obtain ⟨rfl, rfl⟩ := hre; exact hbst _ _ rfl
      · rcases h2 with h2 | h2
        · rcases List.mem_cons.1 h2 with rfl | h2
          · right
            have e1 : distanceAtLeast p q b = d := Nat.le_antisymm (s3 d hm hb) (hmin _ _ hxc s1 s2)
            rcases best with _ | ⟨t0, d0⟩
            · simp [e1]
            · simp only [e1]
              split
              · rfl
              · obtain ⟨h3, h4, h5⟩ := hbst t0 d0 rfl
                have := hmin _ _ h3 h4 h5
                have : d0 = d := by omega
                subst this
                rw [← h4, hm]
          · left; exact h2
        · right
          subst h2
          simp only
          split
          · have := hmin _ _ hxc s1 s2; omega
          · rfl
  unfold nearestTarget
  exact key g.clearList (fun _ h => h) none (by simp) (Or.inl hq)

end Sys2Proof.Laws
end

