-- ==== Sys2Proof/Laws/PerInstr.lean ====
section
/-! SUPPORT. One lemma for each command: the body that asks for a request begins with a kind byte whose highest bit is 0
(R192: the reply carries that kind with the bit set), followed by its tag; no body asks for an event (section 10.3). -/

namespace Sys2Proof.Laws.RequestKind

/-- A body that asks for the command begins with a kind below 0x80 and a tag. -/
def Statement (i : Instr) : Prop :=
  ∀ body, encodeBody i = some body → ∃ k tag ps, body = k :: tag :: ps ∧ k.getLsbD 7 = false

theorem powerOn : Statement .powerOn := by
  intro body h; cases h

theorem resetPin : Statement .resetPin := by
  intro body h; cases h

theorem serialByteReceived (b : Byte) : Statement (.serialByteReceived b) := by
  intro body h; cases h

theorem frameGapTimer : Statement .frameGapTimer := by
  intro body h; cases h

theorem replySent : Statement .replySent := by
  intro body h; cases h

theorem identify (tag : Byte) : Statement (.identify tag) := by
  intro body h; cases h; exact ⟨_, _, _, rfl, rfl⟩

theorem status (tag : Byte) : Statement (.status tag) := by
  intro body h; cases h; exact ⟨_, _, _, rfl, rfl⟩

theorem fetchEvents (tag : Byte) (count : Nat) : Statement (.fetchEvents tag count) := by
  intro body h; cases h; exact ⟨_, _, _, rfl, rfl⟩

theorem clearFaults (tag : Byte) (kind : Nat) (target : Member) : Statement (.clearFaults tag kind target) := by
  intro body h; cases h; exact ⟨_, _, _, rfl, rfl⟩

theorem setLinkRate (tag : Byte) (rate : Nat) : Statement (.setLinkRate tag rate) := by
  intro body h; cases h; exact ⟨_, _, _, rfl, rfl⟩

theorem saveSettings (tag : Byte) : Statement (.saveSettings tag) := by
  intro body h; cases h; exact ⟨_, _, _, rfl, rfl⟩

theorem restart (tag : Byte) : Statement (.restart tag) := by
  intro body h; cases h; exact ⟨_, _, _, rfl, rfl⟩

theorem defineLoop (tag : Byte) (n l wMin : Nat) : Statement (.defineLoop tag n l wMin) := by
  intro body h; cases h; exact ⟨_, _, _, rfl, rfl⟩

theorem defineOpening (tag : Byte) (opening sill below above : Nat) : Statement (.defineOpening tag opening sill below above) := by
  intro body h; cases h; exact ⟨_, _, _, rfl, rfl⟩

theorem defineLoopTiming (tag : Byte) (v : LoopTiming) : Statement (.defineLoopTiming tag v) := by
  intro body h; cases h; exact ⟨_, _, _, rfl, rfl⟩

theorem loopStart (tag : Byte) : Statement (.loopStart tag) := by
  intro body h; cases h; exact ⟨_, _, _, rfl, rfl⟩

theorem loopDrain (tag : Byte) : Statement (.loopDrain tag) := by
  intro body h; cases h; exact ⟨_, _, _, rfl, rfl⟩

theorem loopStop (tag : Byte) (force : Nat) : Statement (.loopStop tag force) := by
  intro body h; cases h; exact ⟨_, _, _, rfl, rfl⟩

theorem loopCreep (tag : Byte) : Statement (.loopCreep tag) := by
  intro body h; cases h; exact ⟨_, _, _, rfl, rfl⟩

theorem landingLockout (tag : Byte) (landing : Member) (setting : Nat) : Statement (.landingLockout tag landing setting) := by
  intro body h; cases h; exact ⟨_, _, _, rfl, rfl⟩

theorem queryLoop (tag : Byte) : Statement (.queryLoop tag) := by
  intro body h; cases h; exact ⟨_, _, _, rfl, rfl⟩

theorem queryCars (tag : Byte) : Statement (.queryCars tag) := by
  intro body h; cases h; exact ⟨_, _, _, rfl, rfl⟩

theorem queryLanding (tag : Byte) (landing : Member) : Statement (.queryLanding tag landing) := by
  intro body h; cases h; exact ⟨_, _, _, rfl, rfl⟩

theorem defineZone (tag : Byte) (zone : Nat) (v : ZoneReq) : Statement (.defineZone tag zone v) := by
  intro body h; cases h; exact ⟨_, _, _, rfl, rfl⟩

theorem queryZones (tag : Byte) : Statement (.queryZones tag) := by
  intro body h; cases h; exact ⟨_, _, _, rfl, rfl⟩

theorem fireReset (tag : Byte) : Statement (.fireReset tag) := by
  intro body h; cases h; exact ⟨_, _, _, rfl, rfl⟩

theorem defineShutter (tag : Byte) (shutter : Nat) (v : ShutterReq) : Statement (.defineShutter tag shutter v) := by
  intro body h; cases h; exact ⟨_, _, _, rfl, rfl⟩

theorem shutterClose (tag : Byte) (kind : Nat) (member : Member) : Statement (.shutterClose tag kind member) := by
  intro body h; cases h; exact ⟨_, _, _, rfl, rfl⟩

theorem shutterOpen (tag : Byte) (kind : Nat) (member : Member) : Statement (.shutterOpen tag kind member) := by
  intro body h; cases h; exact ⟨_, _, _, rfl, rfl⟩

theorem shutterTest (tag : Byte) (shutter : Nat) : Statement (.shutterTest tag shutter) := by
  intro body h; cases h; exact ⟨_, _, _, rfl, rfl⟩

theorem queryShutter (tag : Byte) (shutter : Member) : Statement (.queryShutter tag shutter) := by
  intro body h; cases h; exact ⟨_, _, _, rfl, rfl⟩

theorem defineBridges (tag : Byte) (v : BridgeParams) : Statement (.defineBridges tag v) := by
  intro body h; cases h; exact ⟨_, _, _, rfl, rfl⟩

theorem queryBridges (tag : Byte) : Statement (.queryBridges tag) := by
  intro body h; cases h; exact ⟨_, _, _, rfl, rfl⟩

theorem defineCode (tag : Byte) (code : Nat) (groups : List Nat) (urgency : Nat) (repeats : Option (Nat × Nat)) : Statement (.defineCode tag code groups urgency repeats) := by
  intro body h; cases h; exact ⟨_, _, _, rfl, rfl⟩

theorem defineStation (tag : Byte) (station enable : Nat) (lineCode : Option (Nat × Nat)) : Statement (.defineStation tag station enable lineCode) := by
  intro body h; cases h; exact ⟨_, _, _, rfl, rfl⟩

theorem defineBellTiming (tag : Byte) (v : BellTiming) : Statement (.defineBellTiming tag v) := by
  intro body h; cases h; exact ⟨_, _, _, rfl, rfl⟩

theorem bellRing (tag : Byte) (line : Member) (code : Nat) : Statement (.bellRing tag line code) := by
  intro body h; cases h; exact ⟨_, _, _, rfl, rfl⟩

theorem bellAnswer (tag : Byte) (line : Member) (code : Nat) : Statement (.bellAnswer tag line code) := by
  intro body h; cases h; exact ⟨_, _, _, rfl, rfl⟩

theorem bellSilence (tag : Byte) (line : Member) : Statement (.bellSilence tag line) := by
  intro body h; cases h; exact ⟨_, _, _, rfl, rfl⟩

theorem queryBellLine (tag : Byte) (line : Member) (first : Nat) : Statement (.queryBellLine tag line first) := by
  intro body h; cases h; exact ⟨_, _, _, rfl, rfl⟩

theorem phraseOpen (tag : Byte) (phrase length : Nat) : Statement (.phraseOpen tag phrase length) := by
  intro body h; cases h; exact ⟨_, _, _, rfl, rfl⟩

theorem phraseData (tag : Byte) (phrase offset : Nat) (data : List Byte) : Statement (.phraseData tag phrase offset data) := by
  intro body h; cases h; exact ⟨_, _, _, rfl, rfl⟩

theorem phraseClose (tag : Byte) (phrase : Nat) : Statement (.phraseClose tag phrase) := by
  intro body h; cases h; exact ⟨_, _, _, rfl, rfl⟩

theorem phraseDelete (tag : Byte) (phrase : Nat) : Statement (.phraseDelete tag phrase) := by
  intro body h; cases h; exact ⟨_, _, _, rfl, rfl⟩

theorem queryPhrases (tag : Byte) (first : Nat) : Statement (.queryPhrases tag first) := by
  intro body h; cases h; exact ⟨_, _, _, rfl, rfl⟩

theorem defineEvacuation (tag : Byte) (phrases : List Nat) : Statement (.defineEvacuation tag phrases) := by
  intro body h; cases h; exact ⟨_, _, _, rfl, rfl⟩

theorem announce (tag : Byte) (zones : Set8) (phrases : List Nat) (repeats : Nat) : Statement (.announce tag zones phrases repeats) := by
  intro body h; cases h; exact ⟨_, _, _, rfl, rfl⟩

theorem announceCancel (tag : Byte) (handle : Nat) : Statement (.announceCancel tag handle) := by
  intro body h; cases h; exact ⟨_, _, _, rfl, rfl⟩

theorem queryAnnouncements (tag : Byte) : Statement (.queryAnnouncements tag) := by
  intro body h; cases h; exact ⟨_, _, _, rfl, rfl⟩

theorem setClock (tag : Byte) (seconds weekday : Nat) : Statement (.setClock tag seconds weekday) := by
  intro body h; cases h; exact ⟨_, _, _, rfl, rfl⟩

theorem defineClosingTimes (tag : Byte) (times : List (Option Nat)) : Statement (.defineClosingTimes tag times) := by
  intro body h; cases h; exact ⟨_, _, _, rfl, rfl⟩

theorem defineStep (tag : Byte) (slot : Nat) (step : Option StepReq) : Statement (.defineStep tag slot step) := by
  intro body h; cases h; exact ⟨_, _, _, rfl, rfl⟩

theorem closingStart (tag : Byte) : Statement (.closingStart tag) := by
  intro body h; cases h; exact ⟨_, _, _, rfl, rfl⟩

theorem closingDelay (tag : Byte) (minutes : Nat) : Statement (.closingDelay tag minutes) := by
  intro body h; cases h; exact ⟨_, _, _, rfl, rfl⟩

theorem closingAbort (tag : Byte) : Statement (.closingAbort tag) := by
  intro body h; cases h; exact ⟨_, _, _, rfl, rfl⟩

theorem queryClosing (tag : Byte) (first : Nat) : Statement (.queryClosing tag first) := by
  intro body h; cases h; exact ⟨_, _, _, rfl, rfl⟩

theorem countPulse : Statement .countPulse := by
  intro body h; cases h

theorem pitchPulse : Statement .pitchPulse := by
  intro body h; cases h

theorem datumPulse : Statement .datumPulse := by
  intro body h; cases h

theorem standstillTimer : Statement .standstillTimer := by
  intro body h; cases h

theorem windowTimer : Statement .windowTimer := by
  intro body h; cases h

theorem drainTimer : Statement .drainTimer := by
  intro body h; cases h

theorem creepDelayTimer : Statement .creepDelayTimer := by
  intro body h; cases h

theorem scanEvent (inputs : BitVec 256) (check : BitVec 16) : Statement (.scanEvent inputs check) := by
  intro body h; cases h

theorem conversionComplete (reading : BitVec 10) : Statement (.conversionComplete reading) := by
  intro body h; cases h

theorem openGraceTimer (bridge : Fin 4) : Statement (.openGraceTimer bridge) := by
  intro body h; cases h

theorem travelTimer (shutter : Fin 24) : Statement (.travelTimer shutter) := by
  intro body h; cases h

theorem retryTimer (shutter : Fin 24) : Statement (.retryTimer shutter) := by
  intro body h; cases h

theorem pauseTimer (shutter : Fin 24) : Statement (.pauseTimer shutter) := by
  intro body h; cases h

theorem checkSettingEnd (bridge : Fin 4) (levelA levelB : Bool) : Statement (.checkSettingEnd bridge levelA levelB) := by
  intro body h; cases h

theorem dwellTimer (bridge : Fin 4) : Statement (.dwellTimer bridge) := by
  intro body h; cases h

theorem sweepTimer : Statement .sweepTimer := by
  intro body h; cases h

theorem strikerOnTimeEnd (line : Fin 8) : Statement (.strikerOnTimeEnd line) := by
  intro body h; cases h

theorem lineTimer (line : Fin 8) : Statement (.lineTimer line) := by
  intro body h; cases h

theorem callDueTime (line : Fin 8) (origin : Origin) (code : Nat) : Statement (.callDueTime line origin code) := by
  intro body h; cases h

theorem flashTimer (station : Fin 48) : Statement (.flashTimer station) := by
  intro body h; cases h

theorem writeTransferDone : Statement .writeTransferDone := by
  intro body h; cases h

theorem blockReadDone : Statement .blockReadDone := by
  intro body h; cases h

theorem blockPlayEnd (channel : Chan) : Statement (.blockPlayEnd channel) := by
  intro body h; cases h

theorem passGapTimer (channel : Chan) : Statement (.passGapTimer channel) := by
  intro body h; cases h

theorem secondTick : Statement .secondTick := by
  intro body h; cases h

theorem holdTimer : Statement .holdTimer := by
  intro body h; cases h

theorem audioSample : Statement .audioSample := by
  intro body h; cases h

end Sys2Proof.Laws.RequestKind
end

