-- ==== Sys2Proof/Tests/Slice0.lean ====
section
/-! SUPPORT. The model's own tests: terms that the well-formedness check refuses, words written out from the layouts,
single steps of the manual's worked cases, and for every statement with hypotheses states that meet them. Each test names
the rule or the worked case its expected result comes from. -/

namespace Sys2Proof.Tests

/- One test is checked after another, so that the tests together stay small in memory. -/
set_option Elab.async false

open Sys2Proof.Machine Sys2Proof.Safety

/-! ### Helpers and small states -/

/-- The state after one command. -/
def after (c : Instr) (s : State) : State :=
  match exec c s with
  | .next t => t
  | .fault _ => s
  | .refused _ => s

/-- The outcome of the request, taken in `s`. -/
def outcome (s : State) (c : Instr) : Option ReqOutcome := (after c s).link.reply.map Reply.outcome

/-- The outcomes of the requests, each taken in `s`. -/
def outcomes (s : State) (cs : List Instr) : List ReqOutcome := cs.filterMap (outcome s)

/-- The detail, subject and kind of the newest event. -/
def newest (s : State) : Option (EventKind × Option Nat × Nat) :=
  s.link.events.getLast?.map (fun e => (e.kind, e.subject, e.detail))

/-- The geometry of the worked case of section 1.2: N = 16, L = 3, w_min = 16. -/
def three (band : Nat) : Geometry :=
  { dims := some { n := 16, l := 3, wMin := 16 }
    openings := Tab.make 16 (fun o =>
      ([300, 72, 1200, 3268, 2120, 2348][o]?).map (fun x =>
        { sill := x, below := if o = 2 then band else 30, above := if o = 2 then band else 30 })) }

/-- A referenced loop of that geometry with every car empty, two pitch pulses since the closing, 9000 ms apart. -/
def loopAt (st : LoopState) (c : Nat) : State :=
  { State.reset with
    cfg := { defaultSettings with geom := three 30 }
    loop :=
      { State.reset.loop with
        st, c, refValid := true, cars := List.replicate 16 (.count 0), closing := 2, interval := some 9000 } }

/-- The loop with other records. -/
def withLoop (f : Loop → Loop) (s : State) : State := { s with loop := f s.loop }

/-- A loop that is not referenced. -/
def unref (st : LoopState) : State := withLoop (fun x => { x with refValid := false }) (loopAt st 0)

/-- Car 4 holds one person and every other car is empty. -/
def oneAboard (s : State) : State :=
  withLoop (fun x => { x with cars := x.cars.set 4 (.count 1) }) s

/-- The input point is accepted with the value. -/
def input (p : Nat) (v : Bool) (s : State) : State :=
  { s with field := { s.field with
    inputs := s.field.inputs.put p { accepted := some v, raw := some v, awaiting := false } } }

/-- A shutter definition with fire zone 0 and group 1. -/
def aShutter (k : ShutterKind) (o : Option Nat) : ShutterDef :=
  { floor := 3, kind := k, opening := o, zones := 1#8, groups := 2#8, priority := 1, travel := 30, retryDelay := 10
    retryLimit := 1, firePause := 5, pauseLimit := 3 }

/-- Shutter 4 closes opening 2, shutter 9 is a DIVIDER; both are OPEN. -/
def shutters (s : State) : State :=
  { s with
    cfg := { s.cfg with shutters :=
      ((Tab.fill 24 none).put 4 (some (aShutter .opening (some 2)))).put 9 (some (aShutter .divider none)) }
    shutters := (s.shutters.put 4 { Shutter.idle with motion := .open }).put 9 { Shutter.idle with motion := .open } }

/-- Shutter `i` has the demand and the motion, and the change `f`. -/
def demanding (i : Nat) (m : Motion) (d : DemandDir) (c : DemandClass) (st : DemandStatus) (f : Shutter → Shutter)
    (s : State) : State :=
  let x : Demand := { dir := d, cls := c, status := st, placedAt := 0, placedSeq := 0, single := false }
  { s with shutters := s.shutters.put i (f { Shutter.idle with motion := m, demand := some x }) }

/-- Bridge `b` is in the state, connected to the shutter. -/
def bridge (b : Nat) (st : BridgeState) (i : Option Nat) (s : State) : State :=
  { s with bridges := { s.bridges with units := s.bridges.units.put b { Bridge.idle with st, shutter := i } } }

/-- Zone `z` is enabled with reporting floor 4 and the default values (section 3.2) and in the state, and its channel is
converted next. -/
def zone (z : Nat) (st : ZoneState) (s : State) : State :=
  let d : ZoneDef := { enable := true, floor := 4, t1 := 100, t2 := 420, t3 := 900, h := 12, k := 3 }
  { s with
    cfg := { s.cfg with zones := s.cfg.zones.put z d }
    fire := { s.fire with zones := s.fire.zones.put z { st, run := none, latest := none }, channel := z } }

/-- The confirmation run of zone `z`. -/
def zoneRun (z : Nat) (r : Option (Band × Nat)) (s : State) : State :=
  { s with fire := { s.fire with zones := s.fire.zones.put z { zoneAt s z with run := r } } }

/-- The fire latch is set with the alarmed set. -/
def latched (a : Set8) (s : State) : State := { s with fire := { s.fire with latch := true, alarmed := a } }

/-- The codes 4 and 7 and the stations 10 and 11 of the worked case of section 6.10. -/
def belled : State :=
  { State.reset with cfg := { defaultSettings with
    codes :=
      ((Tab.fill 16 none).put 4 (some { groups := [2, 1], urgency := 1, maxRepeats := 1, interval := 60 })).put 7
        (some { groups := [3], urgency := 2, maxRepeats := 0, interval := 30 })
    stations := ((Tab.fill 48 none).put 10 (some { line := 2, code := 4 })).put 11 (some { line := 2, code := 7 }) } }

/-- A call. -/
def aCall (o : Origin) (c : Nat) (st : CallState) (n : Nat) (due : Option Nat) : Call :=
  { origin := o, code := c, urgency := 1, st, repeats := n, due, dueTaken := false, raisedAt := 0, raisedSeq := 0 }

/-- Line 2 has the record. -/
def line (x : Line) (s : State) : State := { s with bells := { s.bells with lines := s.bells.lines.put 2 x } }

/-- The phrases 3 (READY, 5000 bytes on pages 1 and 7), 5 (LOADING, 4100 of 4096 + 100 bytes on pages 2 and 4) and 6
(READY, 300 bytes on page 3). -/
def phrased (s : State) : State :=
  { s with phrases := { State.reset.phrases with
    phrases := (((Tab.fill 64 .empty).put 3 (.ready 5000 0)).put 5 (.loading 4196 4000)).put 6 (.ready 300 0)
    owners :=
      (((((Tab.fill 256 none).put 1 (some 3)).put 7 (some 3)).put 2 (some 5)).put 4 (some 5)).put 3 (some 6) } }

/-- A step table with the steps in the slots given. -/
def stepped (xs : List (Nat × ClosingStep)) (s : State) : State :=
  { s with
    cfg := { s.cfg with
      steps := xs.foldl (fun t p => t.put p.1 (some p.2)) (Tab.fill 16 none)
      times := Tab.make 7 (fun d => if d < 6 then some 1080 else none) }
    clock := { isSet := true, seconds := 64350, weekday := 3, tickDue := 1000 } }

/-- The programme is in the state, on slot `k` of the clock's day. -/
def programme (st : ProgState) (k : Nat) (s : State) : State :=
  { s with prog := { s.prog with
    st, day := some s.clock.weekday, reference := 64800, next := some k
    hold := if st = .held then some 5000 else none } }

/-! ### Terms the well-formedness check refuses -/

/-- R194, section 11.4: a value that its field of whole bytes cannot hold. -/
theorem test_wf_values :
    [Instr.fetchEvents 0 256, .clearFaults 0 256 .all, .clearFaults 0 0 (.one 255), .setLinkRate 0 16777216,
      .defineLoop 0 256 2 4, .defineLoop 0 6 256 4, .defineLoop 0 6 2 256, .defineOpening 0 256 0 0 0,
      .defineOpening 0 0 65536 0 0, .defineOpening 0 0 0 256 0, .defineOpening 0 0 0 0 256, .loopStop 0 256,
      .landingLockout 0 (.one 255) 0, .landingLockout 0 .all 256, .queryLanding 0 (.one 255), .shutterClose 0 256 .all,
      .shutterClose 0 0 (.one 255), .shutterOpen 0 256 .all, .shutterOpen 0 0 (.one 255), .shutterTest 0 256,
      .queryShutter 0 (.one 255), .bellRing 0 (.one 255) 0, .bellRing 0 .all 256, .bellAnswer 0 (.one 255) 0,
      .bellAnswer 0 .all 256, .bellSilence 0 (.one 255), .queryBellLine 0 (.one 255) 0, .queryBellLine 0 .all 256,
      .phraseOpen 0 256 1, .phraseOpen 0 0 16777216, .phraseClose 0 256, .phraseDelete 0 256, .queryPhrases 0 256,
      .announceCancel 0 256, .setClock 0 16777216 0, .setClock 0 0 256, .closingDelay 0 256, .queryClosing 0 256,
      .callDueTime 0 .link 16].all (fun i => !i.wf) = true := by decide +kernel

/-- Sections 6.1, 7.3, 8.4 and 9.2: a list, a data length or an optional value that its frame cannot hold. -/
theorem test_wf_lists :
    [Instr.defineCode 0 256 [1] 0 none, .defineCode 0 0 (List.replicate 200 1) 0 none, .defineCode 0 0 [256] 0 none,
      .defineCode 0 0 [1] 256 none, .defineCode 0 0 [1] 0 (some (256, 0)), .defineCode 0 0 [1] 0 (some (0, 65536)),
      .defineStation 0 256 0 none, .defineStation 0 0 256 none, .defineStation 0 0 1 (some (256, 0)),
      .defineStation 0 0 1 (some (0, 256)), .defineStation 0 0 1 none, .defineStation 0 0 0 (some (0, 0)),
      .phraseData 0 256 0 [], .phraseData 0 0 16777216 [], .phraseData 0 0 0 (List.replicate 234 0#8),
      .defineEvacuation 0 [256], .defineEvacuation 0 (List.replicate 200 0), .announce 0 0#8 [256] 0,
      .announce 0 0#8 [] 256, .defineClosingTimes 0 [none],
      .defineClosingTimes 0 (List.replicate 7 (some 65535))].all (fun i => !i.wf) = true := by decide +kernel

/-- Sections 2.2, 3.2, 4.1, 5.9, 6.8: one value of a record that its field cannot hold. -/
theorem test_wf_records :
    ([{ defaultTiming with pTol := 256 }, { defaultTiming with standstill := 65536 }, { defaultTiming with tMin := 65536 },
        { defaultTiming with tMax := 65536 }, { defaultTiming with tStart := 65536 }, { defaultTiming with tNom := 65536 },
        { defaultTiming with tcMin := 65536 }, { defaultTiming with tcMax := 16777216 }, { defaultTiming with decel := 256 },
        { defaultTiming with rDrain := 256 }, { defaultTiming with drainNormal := 65536 },
        { defaultTiming with drainFire := 65536 }, { defaultTiming with creepLimit := 256 },
        { defaultTiming with creepDelay := 256 }, { defaultTiming with creepStop := 256 }] : List LoopTiming).all
          (fun v => !(Instr.defineLoopTiming 0 v).wf) = true ∧
    ([⟨256, 0, 0, 0, 0, 0, 0⟩, ⟨0, 256, 0, 0, 0, 0, 0⟩, ⟨0, 0, 65536, 0, 0, 0, 0⟩, ⟨0, 0, 0, 65536, 0, 0, 0⟩,
        ⟨0, 0, 0, 0, 65536, 0, 0⟩, ⟨0, 0, 0, 0, 0, 256, 0⟩, ⟨0, 0, 0, 0, 0, 0, 256⟩] : List ZoneReq).all
          (fun v => !(Instr.defineZone 0 0 v).wf) = true ∧ (Instr.defineZone 0 256 default).wf = false ∧
    ([⟨256, 0, none, 0#8, 0#8, 0, 0, 0, 0, 0, 0⟩, ⟨0, 256, none, 0#8, 0#8, 0, 0, 0, 0, 0, 0⟩,
        ⟨0, 0, some 255, 0#8, 0#8, 0, 0, 0, 0, 0, 0⟩, ⟨0, 0, none, 0#8, 0#8, 256, 0, 0, 0, 0, 0⟩,
        ⟨0, 0, none, 0#8, 0#8, 0, 256, 0, 0, 0, 0⟩, ⟨0, 0, none, 0#8, 0#8, 0, 0, 256, 0, 0, 0⟩,
        ⟨0, 0, none, 0#8, 0#8, 0, 0, 0, 256, 0, 0⟩, ⟨0, 0, none, 0#8, 0#8, 0, 0, 0, 0, 256, 0⟩,
        ⟨0, 0, none, 0#8, 0#8, 0, 0, 0, 0, 0, 256⟩] : List ShutterReq).all
          (fun v => !(Instr.defineShutter 0 0 v).wf) = true ∧ (Instr.defineShutter 0 256 default).wf = false ∧
    ([⟨256, 0, 0, 0, 0⟩, ⟨0, 65536, 0, 0, 0⟩, ⟨0, 0, 256, 0, 0⟩, ⟨0, 0, 0, 65536, 0⟩, ⟨0, 0, 0, 0, 65536⟩] :
        List BridgeParams).all (fun v => !(Instr.defineBridges 0 v).wf) = true ∧
    ([⟨256, 0, 0, 0, 0⟩, ⟨0, 65536, 0, 0, 0⟩, ⟨0, 0, 65536, 0, 0⟩, ⟨0, 0, 0, 65536, 0⟩, ⟨0, 0, 0, 0, 65536⟩] :
        List BellTiming).all (fun v => !(Instr.defineBellTiming 0 v).wf) = true := by decide +kernel

/-- Section 9.2: a step whose offset, action or parameters its frame cannot hold, or with a parameter its action has
not. -/
theorem test_wf_steps :
    ([⟨128, 2, none, none, none, none, none, none, none⟩, ⟨-129, 2, none, none, none, none, none, none, none⟩,
        ⟨0, 256, none, none, none, none, none, none, none⟩, ⟨0, 0, none, some 1#8, none, none, none, none, none⟩,
        ⟨0, 0, some [256], some 1#8, none, none, none, none, none⟩, ⟨0, 1, none, none, some 256, some 1#8, none, none, none⟩,
        ⟨0, 2, none, none, none, none, none, none, some 1⟩, ⟨0, 3, none, none, none, none, none, none, some 256⟩,
        ⟨0, 4, none, none, none, none, some 256, none, none⟩, ⟨0, 4, none, none, none, none, some 0, none, some 256⟩,
        ⟨0, 5, none, none, none, none, none, none, none⟩, ⟨0, 6, none, none, none, none, none, none, some 0⟩] :
      List StepReq).all (fun v => !(Instr.defineStep 0 0 (some v)).wf) = true ∧
    (Instr.defineStep 0 256 none).wf = false := by decide +kernel

/-! ### The queue and the house link -/

/-- Log entries 19 and 4: what `StepRunsTheFrontCommandOrIdles` speaks of. -/
theorem witness_idle : State.reset.pending = [] := rfl

/-- A command in front is run with the rest of the queue. -/
theorem test_step_front :
    step { State.reset with pending := [.countPulse, .pitchPulse] } =
      exec .countPulse { State.reset with pending := [.pitchPulse] } := rfl

theorem witness_EachCommandChangesOnly : ∃ t, exec .countPulse State.reset = .next t := ⟨_, rfl⟩

/-- A state whose framer is CLOSED, and two whose framer is not; kinds that are FETCH EVENTS and that are not. -/
theorem witness_RequestsAreAnsweredWaitOrAreLost :
    kindTag (.identify 5) = some (0x01#8, 5#8) ∧ kindTag (.fetchEvents 5 1) = some (0x03#8, 5#8) ∧
      State.reset.link.closed = false ∧ (after (.identify 5) State.reset).link.closed = true := by decide +kernel

/-- A part that has taken the first `n` bytes of the frame with the body. -/
def inFrame (body : List Byte) (n : Nat) : State :=
  { State.reset with link := { State.reset.link with kept := (frameOf body).take n, gap := some 10 } }

/-- The greatest body a frame carries. -/
def longBody : List Byte := List.replicate 240 0x41#8

theorem witness_FramerTakesBytesAndFrames :
    (State.reset.link.kept = [] ∧ State.reset.link.gap = none) ∧
    (∀ body ∈ [[3#8, 17#8, 4#8], longBody], 3 ≤ body.length ∧ body.length ≤ 240 ∧ (∃ b ∈ body, b ≠ 0x00#8) ∧
      (∃ b ∈ body, b ≠ 0xFF#8) ∧
      (∀ n ∈ [1, body.length + 1], n + 1 < (frameOf body).length ∧
        (inFrame body n).link.kept = (frameOf body).take n ∧ (frameOf body)[n]?.isSome = true) ∧
      (inFrame body (body.length + 2)).link.kept = (frameOf body).dropLast ∧ (frameOf body).getLast?.isSome = true) ∧
    ((inFrame [3#8] 1).link.gap = some 10 ∧ (inFrame [3#8] 1).link.kept = 0x7E#8 :: [] ∧ (hunt []).frame = none) := by
  decide +kernel

/-- R190: a candidate that goes on, and one dropped for its length, for its check and for a constant body; each way the
framer hunts: nothing kept, a candidate kept, a frame found with a byte after it, and a second candidate dropped. -/
theorem witness_framer_drops_and_hunts :
    Partial ([] ++ [3#8]) ∧ Partial ([3#8, 1#8, 2#8] ++ [3#8]) ∧ Dropped ([] ++ [2#8]) ∧ Dropped ([] ++ [241#8]) ∧
    Dropped ([3#8, 1#8, 2#8, 3#8] ++ [0#8]) ∧ Dropped ([3#8, 0#8, 0#8, 0#8] ++ [253#8]) ∧
    Dropped ([3#8, 255#8, 255#8, 255#8] ++ [0#8]) ∧ Hunts [2#8] [] none ∧ Hunts [9#8, 0x7E#8] [0x7E#8] none ∧
    Hunts (frameOf [3#8, 17#8, 4#8] ++ [0x7E#8]) [] (some ([3#8, 17#8, 4#8], [0x7E#8])) ∧
    Hunts [0x7E#8, 2#8] [] none :=
  have drop (n : Byte) (body : List Byte) (check : Byte)
      (h : 3 ≤ n.toNat ∧ n.toNat ≤ 240 ∧ body.length = n.toNat ∧
        ((n.toNat + body.foldl (fun k b => k + b.toNat) 0 + check.toNat) % 256 ≠ 0 ∨ (∀ b ∈ body, b = 0x00#8) ∨
          ∀ b ∈ body, b = 0xFF#8)) : Dropped (n :: (body ++ [check])) := .inr ⟨n, body, check, [], rfl, h⟩
  have none2 : Hunts [2#8] [] none := .skip (by decide) .over
  ⟨.inr ⟨3#8, [], rfl, by decide⟩, .inr ⟨3#8, [1#8, 2#8, 3#8], rfl, by decide⟩, .inl ⟨2#8, [], rfl, by decide⟩,
    .inl ⟨241#8, [], rfl, by decide⟩, drop 3#8 [1#8, 2#8, 3#8] 0#8 (by decide), drop 3#8 [0#8, 0#8, 0#8] 253#8 (by decide),
    drop 3#8 [255#8, 255#8, 255#8] 0#8 (by decide), none2, .skip (by decide) (.under (.inl rfl)),
    .good (by unfold GoodBody; decide), .again (.inl ⟨2#8, [], rfl, by decide⟩) none2⟩

/-- Section 10.2: the check byte of FETCH EVENTS with tag 17 and count 4 is 229. -/
theorem test_frame_check : frameOf [3#8, 17#8, 4#8] = [0x7E#8, 3#8, 3#8, 17#8, 4#8, 229#8] := by decide

/-- Section 10.2: the frame of a reply of two payload bytes has the length 6, and its bytes but the first sum to 0. -/
theorem test_reply_frame :
    serialOut (after (.fetchEvents 17 0) State.reset) = [0x7E#8, 4#8, 0x83#8, 17#8, 0x12#8, 0x25#8, 49#8] := by
  decide +kernel

/-- Section 10.7: noise of one start byte, then the host's frame; when the gap timer expires, the frame is found and the
two records are removed, and the end of the reply clears the dropped-frame flag. -/
theorem test_stray_start_byte :
    let bytes := [0x7E#8, 0x7E#8, 3#8, 3#8, 17#8, 4#8, 229#8];
    let s := after .frameGapTimer (bytes.foldl (fun s b => after (.serialByteReceived b) s) State.reset);
    s.link.closed = true ∧ s.link.events = [] ∧ s.link.dropped = true ∧
      (s.link.reply.map (fun r => (r.outcome, r.payload.take 2))) = some (.done, [2#8, 0#8]) ∧
      (after .replySent s).link.dropped = false := by decide +kernel

/-- Bodies of the shortest and of the longest request, and of one with both kinds of optional parts. -/
theorem witness_RequestBodiesDecodeBack :
    [Instr.identify 5, .fetchEvents 5 255, .phraseData 5 63 16777215 (List.replicate 233 7#8),
      .defineStep 5 15 (some ⟨-90, 3, none, none, none, none, none, none, some 60⟩)].all
        (fun i => i.wf && (encodeBody i).isSome) = true := by decide +kernel

theorem witness_AFrameIsItsRequest :
    (Instr.fetchEvents 17#8 4).wf = true ∧ encodeBody (.fetchEvents 17#8 4) = some [3#8, 17#8, 4#8] ∧
      (inFrame [3#8, 17#8, 4#8] 5).link.closed = false ∧
      (inFrame [3#8, 17#8, 4#8] 5).link.kept = (frameOf [3#8, 17#8, 4#8]).dropLast ∧
      (frameOf [3#8, 17#8, 4#8]).getLast? = some 229#8 := by decide +kernel

/-- R192: good frames of a kind that is none, of a kind with parameters too long, and of a DEFINE STEP whose LOOP_DRAIN
carries a hold limit, beside one that suits; what each is answered. -/
theorem witness_frames_refused :
    (∀ body ∈ [[0x7F#8, 5#8, 1#8], [3#8, 5#8, 1#8, 1#8], [0x51#8, 5#8, 0#8, 10#8, 2#8, 60#8], [3#8, 5#8, 1#8]],
      GoodBody body ∧ (inFrame body (body.length + 2)).link.closed = false ∧
        (inFrame body (body.length + 2)).link.kept = (frameOf body).dropLast ∧ (frameOf body).getLast?.isSome = true) ∧
    (¬ RequestKind 0x7F ∧ RequestKind 3 ∧ RequestKind 0x51) ∧
    (¬ LengthSuits 3 [1#8, 1#8] ∧ ¬ LengthSuits 0x51 [0#8, 10#8, 2#8, 60#8] ∧ LengthSuits 3 [1#8]) ∧
    [[0x7F#8, 5#8, 1#8], [3#8, 5#8, 1#8, 1#8], [0x51#8, 5#8, 0#8, 10#8, 2#8, 60#8], [3#8, 5#8, 1#8]].map decodeBody =
      [.unknownKind, .malformed, .malformed, .request (.fetchEvents 5#8 1)] := by
  refine ⟨by unfold GoodBody; decide +kernel, by unfold RequestKind; decide, ⟨?_, ?_, .inl (by decide)⟩, by decide +kernel⟩ <;>
    simp [LengthSuits, fixedLengths]

/-- A reply being sent, with and without a restart after it. -/
theorem witness_ReplySentReopensOrRestarts :
    (let s := after (.setLinkRate 5 38400) State.reset;
      s.link.reply.isSome = true ∧ s.link.restarting = false ∧ s.link.newRate = some 38400) ∧
    (let s := after (.restart 5) State.reset;
      s.link.reply.isSome = true ∧ s.link.restarting = true) := by decide +kernel

/-- The only premises of `QueriesAreAnswered`, `LoopDrainFromEachState` and others: the framer is not CLOSED, and no
programme is HELD. -/
theorem witness_request : State.reset.link.closed = false ∧ State.reset.prog.st ≠ .held := by decide

/-- R198: the part code 4720 and the queue depth 48 at their places of the payload. -/
theorem test_identify :
    ((after (.identify 5) State.reset).link.reply.map (fun r => (r.payload.length, (r.payload.drop 2).take 2,
      r.payload.getD 11 0))) = some (25, [0x70#8, 0x12#8], 48#8) := by decide +kernel

/-- R24, R98, R137, R151, R186: members and first numbers at both ends of their ranges. -/
theorem witness_QueriesAreAnswered :
    outcomes (loopAt .running 0)
        [.queryCars 1, .queryLanding 1 (.one 2), .queryLanding 1 (.one 3), .queryLanding 1 .all, .queryShutter 1 (.one 23),
          .queryShutter 1 (.one 24), .queryShutter 1 .all, .queryBellLine 1 (.one 7) 47, .queryBellLine 1 (.one 7) 48,
          .queryBellLine 1 (.one 8) 0, .queryBellLine 1 .all 0, .queryPhrases 1 63, .queryPhrases 1 64, .queryClosing 1 15,
          .queryClosing 1 16] =
      [.done, .done, .badValue, .scopeNotSingle, .done, .badValue, .scopeNotSingle, .done, .badValue, .badValue,
        .scopeNotSingle, .done, .badValue, .done, .badValue] ∧
    outcomes State.reset [.queryCars 1, .queryLanding 1 (.one 0)] = [.wrongState, .badValue] := by decide +kernel

/-- R196: counts at both ends of the range, with fewer and with more records than the queue holds. -/
theorem witness_FetchEventsRemovesTheOldest :
    outcomes State.reset [.fetchEvents 1 0, .fetchEvents 1 1, .fetchEvents 1 8, .fetchEvents 1 9] =
      [.badValue, .done, .done, .badValue] ∧
    (after (.fetchEvents 1 1) State.reset).link.events.length = 1 ∧
    (after (.fetchEvents 1 2) State.reset).link.events = [] := by decide +kernel

/-- R188, R203: a rate of the table and one that is not; RESTART refused for a contactor and for a bridge, and taken. -/
theorem witness_LinkRateAndRestartWaitForTheirReply :
    outcomes State.reset [.setLinkRate 1 9600, .setLinkRate 1 115200, .setLinkRate 1 9601, .restart 1] =
      [.done, .done, .badValue, .done] ∧
    outcome (loopAt .running 0) (.restart 1) = some .wrongState ∧
    outcome (bridge 3 (.dwell (some 5) false true) (some 9) (shutters State.reset)) (.restart 1) = some .wrongState := by
  decide +kernel

theorem witness_SaveSettingsWritesTheImage :
    settingsOk State.reset.cfg = true ∧ memoryWf State.reset.store = true ∧ State.reset.phrases.busy = none ∧ State.reset.phrases.waitA = none ∧
      State.reset.phrases.waitB = none := by decide +kernel

/-- Settings of every kind, in range; the built-in defaults too. -/
theorem witness_SettingsImageLoadsBack :
    settingsOk defaultSettings = true ∧ settingsOk belled.cfg = true ∧ settingsOk (shutters (loopAt .parked 0)).cfg = true ∧
      settingsOk (stepped [(0, ⟨-90, .strokes 12 1#8⟩), (15, ⟨30, .landingsLock 1#8⟩)] State.reset).cfg = true := by
  decide +kernel

/-- R51, R96, R113: a state for each clause. -/
theorem witness_ClearFaultsClearsOneTarget :
    (let s := withLoop (fun x => { x with standstill := true }) (unref .faultStop);
      s.loop.st = .faultStop ∧ s.loop.standstill = true ∧ stopInputActive s = false ∧ s.field.lost = false) ∧
    (State.reset.loop.st ≠ .faultStop) ∧
    (let s := demanding 9 .open .close .host .retryWait
        (fun x => { x with demand := none, fault := some .openCircuit }) (shutters State.reset);
      isDefined s 9 = true ∧ (shutterAt s 9).fault.isSome = true ∧ bothLimits s 9 = false ∧ s.fire.latch = false) ∧
    (bridgeAt (bridge 3 .outOfService none State.reset) 3).st = .outOfService := by decide +kernel

/-- R51, R96, R113: each refusal, and ALL with a shutter that keeps its fault (both limits active) and one that loses
it. -/
theorem witness_clear_faults_refuses_and_takes_all :
    let faulty (i : Nat) (s : State) : State :=
      demanding i .stoppedMid .close .host .retryWait (fun x => { x with demand := none, fault := some .openCircuit }) s;
    let s := faulty 4 (faulty 9 (shutters (input 73 true (input 89 true State.reset))));
    ((unref .faultStop).loop.st = .faultStop ∧ (unref .faultStop).loop.standstill = false) ∧
    outcomes (unref .faultStop) [.clearFaults 1 0 .all] = [.wrongState] ∧
    [4, 9, 5, 24].map (fun i => outcome s (.clearFaults 1 1 (.one i))) =
      [some .done, some .wrongState, some .badValue, some .badValue] ∧
    ((after (.clearFaults 1 1 .all) s).link.reply.map Reply.payload) = some [0#8, 2#8, 0#8] ∧
    [4, 9].map (fun i => (shutterAt (after (.clearFaults 1 1 .all) s) i).fault) = [none, some .openCircuit] ∧
    [3, 4].map (fun b => outcome s (.clearFaults 1 2 (.one b))) = [some .done, some .badValue] ∧
    (bridgeAt (after (.clearFaults 1 2 .all) (bridge 3 .outOfService none State.reset)) 3).st = .free := by
  decide +kernel

/-- R27, R115, R136: values at and beyond their limits, and each ordering kept and broken. -/
theorem witness_TuningRequestsClampAndOrder :
    outcomes State.reset
        [.defineLoopTiming 1 defaultTiming, .defineLoopTiming 1 { defaultTiming with pTol := 0 },
          .defineLoopTiming 1 { defaultTiming with tMin := 13500 }, .defineLoopTiming 1 { defaultTiming with tMin := 13501 },
          .defineLoopTiming 1 { defaultTiming with tcMin := 44501 }, .defineBridges 1 defaultBridges,
          .defineBridges 1 { defaultBridges with sweep := 0 }, .defineBridges 1 { defaultBridges with sweep := 241 },
          .defineBridges 1 { defaultBridges with stall := 100, openThr := 100 }, .defineBellTiming 1 defaultBells,
          .defineBellTiming 1 { defaultBells with onTime := 251 },
          .defineBellTiming 1 { defaultBells with strokeGap := 800, groupGap := 800 }] =
      [.done, .clamped, .done, .badValue, .badValue, .done, .done, .clamped, .badValue, .done, .clamped, .badValue] := by
  decide +kernel

/-! ### The loop -/

/-- The worked case of section 1.2: the clear list, and those of the two other definitions of opening 2. -/
theorem test_clear_list :
    (three 30).clearList = [124, 248] ∧ (three 60).clearList = [253] ∧ (three 127).clearList = [] := by decide +kernel

/-- R1, R2, R3, R6: values at both ends of their ranges, the state gate, and a geometry without a clear phase. -/
theorem witness_GeometryRequestsChangeTheGeometry :
    outcomes State.reset
        [.defineLoop 1 5 2 4, .defineLoop 1 6 2 4, .defineLoop 1 24 8 64, .defineLoop 1 25 8 64, .defineLoop 1 6 9 4,
          .defineLoop 1 6 2 65, .defineOpening 1 0 0 0 0] =
      [.badValue, .done, .done, .badValue, .badValue, .badValue, .wrongState] ∧
    outcomes (loopAt .parked 0)
        [.defineOpening 1 5 4095 30 30, .defineOpening 1 6 0 30 30, .defineOpening 1 5 4096 30 30,
          .defineOpening 1 2 1200 60 60, .defineOpening 1 2 1200 127 127, .defineOpening 1 2 1200 128 127] =
      [.done, .badValue, .badValue, .done, .badValue, .badValue] ∧
    outcomes (loopAt .running 0) [.defineOpening 1 2 1200 60 60] = [.wrongState] := by decide +kernel

/-- R32: LOOP START in a state of each branch. -/
theorem witness_LoopStartFromEachState :
    outcome (latched 1#8 (loopAt .parked 0)) (.loopStart 1) = some .fireMode ∧
    [LoopState.braking, .creeping, .faultStop, .running, .starting, .parked, .stoppedFoul, .draining, .stopping].map
        (fun st => outcome (loopAt st 0) (.loopStart 1)) =
      [.wrongState, .wrongState, .wrongState, .done, .done, .done, .done, .done, .done].map some ∧
    outcome (unref .unreferenced) (.loopStart 1) = some .done ∧
    outcome (input 48 true (loopAt .parked 0)) (.loopStart 1) = some .wrongState ∧
    openingShutterFails (demanding 4 .closed .open .host .retryWait id (shutters (loopAt .parked 0))) = some 4 := by
  decide +kernel

/-- R33: LOOP DRAIN in every state. -/
theorem witness_LoopDrainFromEachState :
    [LoopState.running, .starting, .draining, .stopping, .braking, .creeping, .parked, .stoppedFoul, .faultStop].map
        (fun st => outcome (loopAt st 0) (.loopDrain 1)) =
      [.done, .done, .done, .done, .done, .done, .wrongState, .wrongState, .wrongState].map some ∧
    (after (.loopDrain 1) (oneAboard (loopAt .running 0))).loop.drainTimer = some 300000 := by decide +kernel

/-- The targets 124 and 248 of the worked case, seen from a phase. -/
theorem nearest_three (p b q d : Nat) (hq : q = 124 ∨ q = 248) (hd : (p + d) % 256 = q) (hb : b ≤ d)
    (h : d < 256 + b ∧ ∀ e < 256 + b, (p + e) % 256 = 124 ∨ (p + e) % 256 = 248 → b ≤ e → d ≤ e) :
    Nearest (three 30) p b q d := by
  have hc : (three 30).clearList = [124, 248] := test_clear_list.1
  refine ⟨by rw [hc]; simpa using hq, hd, hb, ?_⟩
  intro r e hr he hbe
  rw [hc] at hr
  by_cases hlt : e < 256 + b
  · exact h.2 e hlt (by simp only [List.mem_cons, List.not_mem_nil, or_false] at hr; rcases hr with rfl | rfl <;> simp [he]) hbe
  · omega

/-- R43: the stop plan of the worked case of section 2.7, with the premises of its clause: from phase 220 the target 124,
160 counts ahead, is the nearest at least 98 counts ahead. -/
theorem witness_LoopStopFromEachState :
    Nearest (loopAt .running 1500).cfg.geom ((loopAt .running 1500).loop.c % 256) 98 124 160 ∧
    ((loopAt .running 1500).loop.closing = 2 ∧ (loopAt .running 1500).loop.interval = some 9000) ∧
    ((after (.loopDrain 1) (oneAboard (loopAt .running 0))).loop.st = .draining ∧
      (after (.loopDrain 1) (oneAboard (loopAt .running 0))).loop.drain.map Drain.drained = some false ∧
      (after (.loopDrain 1) (loopAt .running 0)).loop.drain.map Drain.drained = some true ∧
      (loopAt .referencing 0).loop.st = .referencing) ∧
    (oneAboard (loopAt .running 0)).loop.cars.all (· == .count 0) = false ∧
    (loopAt .starting 0).loop.standstill = false := by
  refine ⟨?_, by decide +kernel, by decide +kernel, by decide +kernel, by decide +kernel⟩
  exact nearest_three 220 98 124 160 (Or.inl rfl) rfl (by decide) (by decide +kernel)

/-- The worked case of section 2.7: the plan, and the clamped one at T = 1000 with its STOP_CLAMPED. -/
theorem test_stop_plan :
    (after (.loopStop 1 1) (loopAt .running 1500)).loop.plan =
      some { speed := 28, braking := 98, targetPhase := 124, target := 1660, command := 62 } ∧
    (let s := withLoop (fun x => { x with interval := some 1000 }) (loopAt .running 1536);
      let t := after (.loopStop 1 1)
        { s with cfg := { s.cfg with timing := { s.cfg.timing with tMin := 1000 } } };
      t.loop.plan = some { speed := 256, braking := 1023, targetPhase := 124, target := 2684, command := 125 } ∧
        newest t = some (.stopClamped, none, 8192)) := by decide +kernel

/-- The worked case of section 2.8: from c = 1690 the creep goes to phase 248, 94 counts ahead; and a target at the creep
stop distance. -/
theorem witness_CreepBeginsTowardTheNearestTarget :
    Nearest (loopAt .stoppedFoul 1690).cfg.geom ((loopAt .stoppedFoul 1690).loop.c % 256)
      (loopAt .stoppedFoul 1690).cfg.timing.creepStop 248 94 ∧
    Nearest (loopAt .stoppedFoul 242).cfg.geom ((loopAt .stoppedFoul 242).loop.c % 256)
      (loopAt .stoppedFoul 242).cfg.timing.creepStop 248 6 ∧
    (let s := withLoop (fun x => { x with creepDelay := some 2000 }) (loopAt .stoppedFoul 1690);
      s.loop.creepDelay = some 2000 ∧ s.loop.st = .stoppedFoul ∧ s.loop.standstill = false) ∧
    (after (.loopCreep 1) (loopAt .stoppedFoul 1690)).loop.creepPlan =
      some { targetPhase := 248, target := 1784, distance := 94 } := by
  refine ⟨?_, ?_, by decide +kernel, by decide +kernel⟩
  · exact nearest_three 154 6 248 94 (Or.inr rfl) rfl (by decide) (by decide +kernel)
  · exact nearest_three 242 6 248 6 (Or.inr rfl) rfl (by decide) (by decide +kernel)

/-- R20: landings at both ends, each setting, and a part whose landing count is unset. -/
theorem witness_LandingLockoutSetsTheFlags :
    outcomes (loopAt .running 0)
        [.landingLockout 1 (.one 2) 1, .landingLockout 1 (.one 3) 1, .landingLockout 1 .all 0, .landingLockout 1 .all 2] =
      [.done, .badValue, .done, .badValue] ∧
    outcome State.reset (.landingLockout 1 .all 1) = some .wrongState ∧
    (ClosingStep.mk (-90) (.landingsLock 7#8)).action = .landingsLock 7#8 ∧
    (let s := after (.restart 5) State.reset; s.link.reply.isSome = true ∧ s.link.restarting = true) ∧
    ∃ t, exec (.defineLoop 1 6 2 4) State.reset = .next t := by
  refine ⟨by decide +kernel, by decide +kernel, rfl, by decide +kernel, _, rfl⟩

/-- The worked case of section 1.4: the pulse to c = 2095 finds the watch of D0 (opening 1) still ARMED. -/
def lateWatch : State :=
  withLoop (fun x => { x with watches := x.watches.put 1 .armed }) (loopAt .running 2094)

/-- The loop of the worked case of section 2.7 on its way to the stop. -/
def stoppingAt (c : Nat) : State :=
  withLoop (fun x => { x with
    plan := some { speed := 28, braking := 98, targetPhase := 124, target := 1660, command := 62 } }) (loopAt .stopping c)

theorem witness_CountPulse :
    (State.reset.loop.refValid = false ∧ State.reset.loop.st ∈ [.unconfigured, .unreferenced]) ∧
    (lateWatch.cfg.geom.dims = some { n := 16, l := 3, wMin := 16 } ∧ lateWatch.loop.refValid = true ∧
      (1, ({ sill := 72, below := 30, above := 30 } : Opening)) ∈ lateWatch.cfg.geom.watched ∧
      lateWatch.loop.watches.get 1 = .armed ∧
      2095 % 256 = ((72 + 256 - 30 % 256) % 256 + lateWatch.cfg.timing.pTol + 1) % 256 ∧
      (∀ q ∈ lateWatch.cfg.geom.watched, lateWatch.loop.watches.get q.1 = .armed → 1 ≤ q.1)) ∧
    ((stoppingAt 1561).loop.st = .stopping ∧ (stoppingAt 1561).loop.plan.isSome = true ∧
      ∀ q ∈ (stoppingAt 1561).cfg.geom.watched, (stoppingAt 1561).loop.watches.get q.1 ≠ .armed) := by decide +kernel

/-- The worked cases of sections 1.4 and 2.7: SILL_MISMATCH with subject 1 at c = 2095; the RUN contactor opens at
c = 1562 and not before. -/
theorem test_count_pulse :
    newest (after .countPulse lateWatch) = some (.loopFault, some 1, 7) ∧
    (after .countPulse (stoppingAt 1560)).loop.st = .stopping ∧
    (after .countPulse (stoppingAt 1561)).loop.st = .braking := by decide +kernel

/-- A loop that drains with two revolutions to go and one car UNKNOWN; one that creeps to 1660; one whose watch of
opening 1 is MET. -/
def drain (pending : Bool) (travel revs : Nat) : State :=
  let s := withLoop (fun x => { x with
    cars := x.cars.set 4 .unknown
    drain := some { fire := false, stopPending := pending, drained := false, travel, revs } }) (loopAt .draining 100)
  { s with cfg := { s.cfg with timing := { s.cfg.timing with rDrain := 2 } } }

def creep (c : Nat) : State :=
  withLoop (fun x => { x with creepPlan := some { targetPhase := 124, target := 1660, distance := 40 } })
    (loopAt .creeping c)

def metWatch : State := withLoop (fun x => { x with watches := x.watches.put 1 .met }) (loopAt .running 46)

/-- R14, R40, R41, R46, R48: a watch that is armed and one that ends; the drain travel inside a revolution, at the end
of the first of two and of the last, with a stop pending and without; a creep one count before its end and at it; a
PARKED loop that stays on a clear phase, and that drifts onto one that two openings forbid. No watch is ARMED in any. -/
theorem witness_count_pulses :
    (∀ s ∈ [metWatch, loopAt .running 37, drain false 10 0, creep 1652, loopAt .parked 103],
      s.prog.st ≠ .held ∧ s.cfg.geom.dims = some { n := 16, l := 3, wMin := 16 } ∧
        ∀ q ∈ s.cfg.geom.watched, s.loop.watches.get q.1 ≠ .armed) := by decide +kernel

/-- The pulse at each of them. -/
theorem test_count_pulses :
    [loopAt .running 37, metWatch].map (fun s => (after .countPulse s).loop.watches.get 1) = [.armed, .idle] ∧
    [drain false 10 0, drain false 4095 0, drain false 4095 1, drain true 4095 1].map (fun s =>
        let t := after .countPulse s
        ((t.loop.drain.map (fun d => (d.travel, d.revs, d.drained))), newest t)) =
      [(some (11, 0, false), some (.directoryLost, none, 1)), (some (0, 1, false), some (.directoryLost, none, 1)),
        (some (0, 2, true), some (.drainDone, none, 1)), (none, some (.drainDone, none, 1))] ∧
    (after .countPulse (drain false 4095 1)).loop.cars[4]? = some (.count 0) ∧
    [1652, 1653].map (fun c => (after .countPulse (creep c)).loop.st) = [.creeping, .braking] ∧
    [103, 2061].map (fun c =>
        let t := after .countPulse (loopAt .parked c)
        (t.loop.st, newest t)) =
      [(.parked, some (.directoryLost, none, 1)), (.stoppedFoul, some (.loopFoul, some 0, 0x8000))] := by
  refine ⟨?_, ?_, ?_, ?_, ?_⟩ <;> decide +kernel

/-- R9, R10, R29, R30: states for the clauses: off the pitch, the last referencing count, an early pulse, the first
pulse of a start. -/
theorem witness_PitchPulse :
    (let s := loopAt .running 2313;
      s.loop.refValid = true ∧ ¬(s.loop.c % 256 ≤ s.cfg.timing.pTol ∨ 256 ≤ s.loop.c % 256 + s.cfg.timing.pTol)) ∧
    (let s := withLoop (fun x => { x with refPitch := 17 }) (unref .referencing);
      s.loop.refValid = false ∧ s.loop.st = .referencing ∧ s.loop.refPitch + 1 = s.cfg.geom.cars + 2) ∧
    (let s := withLoop (fun x => { x with lastPitch := some 0 }) { loopAt .running 2050 with
        time := { State.reset.time with now := 5999 } };
      s.loop.c % 256 ≤ s.cfg.timing.pTol ∧ 1 ≤ s.loop.closing ∧ min 65535 (s.time.now - 0) < s.cfg.timing.tMin) ∧
    (let s := withLoop (fun x => { x with closing := 0 }) (loopAt .starting 2302);
      s.loop.refValid = true ∧ 256 ≤ s.loop.c % 256 + s.cfg.timing.pTol ∧ s.loop.closing = 0) := by decide +kernel

/-- The worked case of section 1.4: resynchronisation downward and upward, and PITCH_SLIP at phase 9. -/
theorem test_pitch_pulse :
    [2050, 2302, 2313].map (fun c => (after .pitchPulse (loopAt .running c)).loop.c) = [2048, 2304, 2313] ∧
    newest (after .pitchPulse (loopAt .running 2313)) = some (.loopFault, none, 4) := by decide +kernel

/-- R8, R11: the reference found with each referencing stop request, and the check near 0 and elsewhere. -/
theorem witness_DatumPulseFindsOrChecksTheReference :
    (unref .unreferenced).loop.refValid = false ∧ (unref .referencing).loop.st = .referencing ∧
      (oneAboard (unref .referencing)).loop.cars.all (· == .count 0) = false ∧
      (loopAt .running 4).loop.c ≤ (loopAt .running 4).cfg.timing.pTol ∧
      (loopAt .running 4092).cfg.geom.length ≤ (loopAt .running 4092).loop.c + (loopAt .running 4092).cfg.timing.pTol ∧
      (loopAt .running 5).loop.c ≤ (loopAt .running 5).cfg.geom.length ∧
      [4, 5, 4091, 4092].map (fun c => (after .datumPulse (loopAt .running c)).loop.c) = [0, 5, 4091, 0] := by
  decide +kernel

/-- A braking loop with the plan of the worked case of section 2.7, and its standstill timer. -/
def brakingAt (c : Nat) : State :=
  withLoop (fun x => { x with standTimer := some 600, st := .braking }) (stoppingAt c)

theorem witness_StandstillJudgesTheStop :
    (brakingAt 1671).loop.standTimer = some 600 ∧ (brakingAt 1671).loop.st = .braking ∧
      0 < (brakingAt 1671).cfg.geom.length ∧ (brakingAt 1671).prog.st ≠ .held ∧
      State.reset.loop.standTimer = some 600 ∧ State.reset.loop.st ≠ .braking := by decide +kernel

/-- The worked cases of sections 2.7 and 2.8: PARKED with error +11 at c = 1671; foul in opening 2 with error +30 at
c = 1690. -/
theorem test_stop_verdict :
    newest (after .standstillTimer (brakingAt 1671)) = some (.loopParked, none, 11) ∧
    newest (after .standstillTimer (brakingAt 1690)) = some (.loopFoul, some 2, 30) ∧
    (after .standstillTimer (brakingAt 1690)).loop.creepDelay = some 2600 := by decide +kernel

theorem witness_WindowAndDrainTimersExpire :
    (let s := withLoop (fun x => { x with window := some 14000 }) (loopAt .running 0);
      s.loop.window = some 14000 ∧ contactorClosed s = true ∧ s.loop.closing ≠ 0) ∧
    (let s := after (.loopDrain 1) (oneAboard (loopAt .running 0));
      s.loop.drainTimer = some 300000 ∧ s.loop.st = .draining ∧ s.loop.drain.isSome = true ∧ s.prog.st ≠ .held) ∧
    (let s := withLoop (fun x => { x with drainTimer := some 5 }) (unref .referencing);
      s.loop.drainTimer = some 5 ∧ s.loop.st = .referencing) := by decide +kernel

/-- The worked cases of sections 1.4 and 1.5: the cars in the openings at c = 2090, and none in U1 at c = 1233. -/
theorem test_occupants :
    occupantOf (loopAt .running 2090) 4 = some 0 ∧ occupantOf (loopAt .running 2090) 1 = some 8 ∧
    occupantOf (loopAt .running 1185) 2 = some 0 ∧ occupantOf (loopAt .running 1233) 2 = none := by decide +kernel

/-! ### Fire zones -/

/-- R55, R56: thresholds at and beyond their limits, clamped tuning values, and a zone in ALARM. -/
theorem witness_DefineZoneTestsAndRedefines :
    outcomes State.reset
        [.defineZone 1 7 ⟨1, 7, 100, 420, 1023, 12, 3⟩, .defineZone 1 8 ⟨1, 7, 100, 420, 900, 12, 3⟩,
          .defineZone 1 0 ⟨2, 0, 100, 420, 900, 12, 3⟩, .defineZone 1 0 ⟨1, 8, 100, 420, 900, 12, 3⟩,
          .defineZone 1 0 ⟨1, 0, 100, 420, 1024, 12, 3⟩, .defineZone 1 0 ⟨1, 0, 100, 200, 301, 50, 10⟩,
          .defineZone 1 0 ⟨1, 0, 100, 201, 302, 50, 10⟩, .defineZone 1 0 ⟨1, 0, 100, 201, 302, 51, 0⟩] =
      [.done, .badValue, .badValue, .badValue, .badValue, .badValue, .done, .clamped] ∧
    outcomes (latched 1#8 (zone 0 .alarm State.reset))
        [.defineZone 1 0 ⟨0, 0, 100, 420, 900, 12, 3⟩, .defineZone 1 0 ⟨1, 0, 100, 420, 900, 12, 3⟩] =
      [.wrongState, .done] := by decide +kernel

/-- R54, R59: a zone in each state on the channel that is converted next, at both ends of the zones. -/
theorem witness_ConversionClassifiesTheSample :
    (zone 0 .normal State.reset).fire.channel = 0 ∧ (zone 7 .alarm State.reset).fire.channel = 7 ∧
    (zoneAt (zone 7 .alarm State.reset) 7).st = .alarm ∧ (zoneAt State.reset 0).st = .disabled := by decide +kernel

/-- R57 to R60 with thresholds 100, 420, 900, h = 12, k = 3: the third sample of a run, at the values where the bands
meet. -/
theorem test_bands :
    (let z (st : ZoneState) (b : Band) (v : BitVec 10) : ZoneState :=
      (zoneAt (after (.conversionComplete v) (zoneRun 0 (some (b, 2)) (zone 0 st State.reset))) 0).st;
    [z .normal .short 87, z .normal .short 88, z .normal .alarm 431, z .normal .alarm 432, z .normal .open 899,
        z .normal .open 900] = [.shortFault, .normal, .normal, .alarm, .normal, .openFault] ∧
      [z .alarm .normal 407, z .alarm .normal 408, z .alarm .open 911, z .alarm .open 912] =
        [.normal, .alarm, .alarm, .openFault] ∧
      [z .openFault .alarm 887, z .openFault .alarm 888, z .shortFault .normal 111, z .shortFault .normal 112] =
        [.alarm, .openFault, .shortFault, .normal]) := by decide +kernel

/-- A running loop with one person aboard and the zone one sample short of ALARM. -/
def near (z : Nat) : State := zoneRun z (some (.alarm, 2)) (zone z .normal (shutters (oneAboard (loopAt .running 0))))

def nearAlarm : State := near 2

/-- R59, R62: the least reading of a NORMAL zone that is in ALARM, and the last of a zone in each fault. -/
theorem witness_LatchReachesEveryReader :
    (∀ z ∈ [0, 2], ConfirmsAlarm 432 z (near z) ∧ (near z).fire.latch = false ∧ (near z).link.events.length < 47 ∧
      (near z).loop.st = .running ∧ (near z).loop.cars.all (· == .count 0) = false ∧ isDefined (near z) 4 = true) ∧
    (∀ x ∈ [(ZoneState.openFault, 887), (.shortFault, 420)],
      ConfirmsAlarm x.2 0 (zoneRun 0 (some (.alarm, 2)) (zone 0 x.1 State.reset))) := by
  unfold ConfirmsAlarm; decide +kernel

/-- R62, R89, R90: the latch drains the loop, and the shutters of fire zone 0 are offered a FIRE demand at the same sample
when that zone goes to ALARM, the one on its opening being held by the loop. -/
theorem test_latch :
    (after (.conversionComplete 432) (near 0)).loop.st = .draining ∧
    [4, 9].map (fun i => (demandOf (after (.conversionComplete 432) (near 0)) i).map (fun d => (d.cls, d.status))) =
      [some (.fire, .heldByLoop), some (.fire, .checking)] ∧
    demandOf (after (.conversionComplete 432) nearAlarm) 9 = none := by decide +kernel

/-- A loop in the state with an emptying record that is complete or not, and with everyone out or not. -/
def nearWith (st : LoopState) (done empty : Bool) : State :=
  withLoop (fun x =>
    { x with
      st, cars := if empty then List.replicate 16 (.count 0) else x.cars
      drain := if st = .draining then some { fire := false, stopPending := false, drained := done, travel := 3, revs := 1 }
        else none })
    (near 0)

/-- R52: the latch finds the loop in each kind of state, and a programme that is HELD, RUNNING or past midnight. -/
theorem witness_latch_by_state :
    (∀ p ∈ [(LoopState.running, false, true), (.starting, false, false), (.draining, true, false), (.draining, false, false),
        (.referencing, false, false), (.braking, false, false)],
      let s := nearWith p.1 p.2.1 p.2.2;
      ConfirmsAlarm 432 0 s ∧ s.fire.latch = false ∧ s.loop.st = p.1 ∧ s.loop.standstill = false) ∧
    (∀ st ∈ [ProgState.held, .running], ∀ m ∈ [true, false],
      let s := programme st 5 (stepped [(5, ⟨0, .loopStop 20⟩)] (near 0));
      let u := { s with prog := { s.prog with pastMidnight := m } };
      ConfirmsAlarm 432 0 u ∧ programmeRuns u = true ∧ u.fire.latch = false) := by
  unfold ConfirmsAlarm; refine ⟨?_, ?_⟩ <;> decide +kernel

/-- R39, R41, R52, R185: everyone is out, a drain is complete, one goes on, the reference is being found, and the loop brakes;
a programme HELD at slot 5 is ABORTED with its step. -/
theorem test_latch_by_state :
    ([(LoopState.running, false, true), (.draining, true, false), (.draining, false, false), (.referencing, false, false),
          (.braking, false, false)].map (fun p =>
        let t := (after (.conversionComplete 432) (nearWith p.1 p.2.1 p.2.2)).loop
        (t.st, t.refStop, t.drain.any (fun d => d.fire && d.stopPending && d.travel == 3), t.drainTimer.isSome)) =
      [(.stopping, .none, false, false), (.stopping, .none, false, false), (.draining, .none, true, true),
        (.referencing, .drain, false, true), (.braking, .none, false, false)]) ∧
    (let t := after (.conversionComplete 432) (programme .held 5 (stepped [(5, ⟨0, .loopStop 20⟩)] (near 0)));
      (t.prog.st, t.prog.results.get 5, t.prog.results.get 4, t.prog.hold) = (.aborted, .aborted, .notReached, none) ∧
        (t.link.events.map (fun e => (e.kind, e.subject, e.detail))).contains (.closingAborted, some 5, 1) = true) := by
  refine ⟨?_, ?_⟩ <;> decide +kernel

/-- Zone 0 is one sample short of ALARM; the DIVIDER has the fault, and bridge 3 makes a sweep check of shutter `j`, of which
an entry of its own stands at 15; no other bridge is FREE. -/
def nearSweep (j : Nat) (zones : Set8) : State :=
  let s := near 0
  let b := bridge 0 .outOfService none (bridge 1 .outOfService none (bridge 2 .outOfService none
    (bridge 3 (.checking .sweep [(false, false)] 20) (some j) s)))
  { b with
    cfg := { b.cfg with shutters := b.cfg.shutters.put 15 (some { aShutter .stair none with zones, priority := 2 }) }
    shutters := b.shutters.put 15 { Shutter.idle with motion := .open } }

/-- R89 to R91, R104: which shutters the alarm meets; the swept shutter 15 outside the alarm, and within it. -/
theorem witness_FireDemands :
    (∀ z ∈ [1#8, 0#8], ConfirmsAlarm 432 0 (nearSweep 15 z) ∧ Meets 0 (nearSweep 15 z) (aShutter .divider none) ∧
      (Meets 0 (nearSweep 15 z) { aShutter .stair none with zones := z, priority := 2 } ↔ z = 1#8) ∧
      (nearSweep 15 z).cfg.shutters.get 9 = some (aShutter .divider none) ∧
      (shutterAt (nearSweep 15 z) 9).fault = none ∧ (shutterAt (nearSweep 15 z) 9).motion ≠ .closed) ∧
    (∀ z ∈ [1#8, 0#8], (bridgeAt (nearSweep 15 z) 3).st = .checking .sweep [(false, false)] 20 ∧
      (bridgeAt (nearSweep 15 z) 3).shutter = some 15 ∧ (nearSweep 15 z).field.lost = false ∧
      (∀ i < 24, (demandOf (nearSweep 15 z) i).isNone = true) ∧
      ∀ g < 3, (bridgeAt (nearSweep 15 z) g).shutter = none ∧ (bridgeAt (nearSweep 15 z) g).st = .outOfService) := by
  unfold ConfirmsAlarm Meets
  refine ⟨?_, ?_⟩ <;> decide +kernel

theorem test_fire_takes_a_sweep :
    let t := after (.conversionComplete 432) (nearSweep 15 0#8);
    let u := after (.conversionComplete 432) (nearSweep 15 1#8);
    let impossible := after (.conversionComplete 432)
      (demanding 9 .open .close .host .checking (fun x => { x with demand := none, fault := some .shortGround }) (near 0));
    (bridgeAt t 3).st = .checking .preTravel [] 32 ∧ (bridgeAt t 3).shutter = some 9 ∧
      (bridgeAt u 3).st = .checking .preTravel [(false, false)] 20 ∧ (bridgeAt u 3).shutter = some 15 ∧
      (impossible.link.events.map (fun e => (e.kind, e.subject, e.detail))).contains (.fireCloseImpossible, some 9, 3) =
        true := by decide +kernel

/-- R64: a zone in ALARM, a latch that is clear, and one that is set with its zone NORMAL again. -/
theorem witness_FireResetClearsTheLatch :
    ((zoneAt (latched 4#8 (zone 2 .alarm State.reset)) 2).st = .alarm ∧
      ∀ y < 2, (zoneAt (latched 4#8 (zone 2 .alarm State.reset)) y).st ≠ .alarm) ∧
    ((∀ z < 8, (zoneAt State.reset z).st ≠ .alarm) ∧ State.reset.fire.latch = false) ∧
    ((∀ z < 8, (zoneAt (latched 4#8 (zone 2 .normal State.reset)) z).st ≠ .alarm) ∧
      (latched 4#8 (zone 2 .normal State.reset)).fire.latch = true) := by decide +kernel

/-- The latch is set with no zone in ALARM; shutter 9 is driven down under a FIRE demand, line 2 rings, and the evacuation
plays phrase 6 on channel A, or A and B play records too. -/
def underFire (alone : Bool) : State :=
  let s := bridge 1 (.driving false 0 0 none) (some 9)
    (demanding 9 .lowering .close .fire .moving (fun x => { x with travel := some 900, obstructions := 2 })
      (shutters (phrased (line { Line.rest with st := .fireRinging, timer := some 600 } (latched 4#8 State.reset)))))
  let c : Channel := { Channel.idle with st := .phrase, handle := some 0, phrases := [6], granted := some 6 }
  let record : Ann :=
    { handle := 3, cls := .general, zones := 2#8, phrases := [3], repeats := 0, restarts := 0, entry := 0 }
  { s with
    phrases := { s.phrases with phrases := s.phrases.phrases.put 6 (.ready 300 1) }
    ann := { s.ann with
      wanted := true, routing := Tab.fill 8 (some .a), chanA := c
      table := if alone then [] else [record, { record with handle := 4, zones := 1#8 }]
      chanB := if alone then Channel.idle else { c with handle := some 3, phrases := [3], granted := some 3 } } }

/-- R64, R93, R135, R166: what FIRE RESET clears: nothing else plays, and a record plays on channel B and one waits. -/
theorem test_fire_reset_clears :
    (∀ z < 8, (zoneAt (underFire true) z).st ≠ .alarm) ∧ (underFire true).prog.st ≠ .held ∧
    [underFire true, underFire false].map (fun s =>
        let t := after (.fireReset 1) s
        ((shutterAt t 9).motion, (shutterAt t 9).obstructions, (demandOf t 9).isNone, (lineAt t 2).st)) =
      List.replicate 2 (.stoppedMid, 2, true, .idle) ∧
    [underFire true, underFire false].map (fun s => (bridgeAt (after (.fireReset 1) s) 1).st) =
      List.replicate 2 (.dwell (some 250) false true) ∧
    [underFire true, underFire false].map (fun s =>
        let t := after (.fireReset 1) s
        (t.ann.chanA.handle, phraseAt t 6, t.ann.routing.get 0, t.ann.routing.get 7)) =
      [(none, .ready 300 0, none, none), (some 4, .ready 300 0, some .a, none)] ∧
    (after (.fireReset 1) (underFire true)).link.events.map (fun e => (e.kind, e.subject, e.detail)) =
      State.reset.link.events.map (fun e => (e.kind, e.subject, e.detail)) ++
        [(.fireReset, none, 1), (.demandCancelled, some 9, 0), (.announceDone, some 0, 1)] := by
  decide +kernel

/-! ### Shutters and bridges -/

/-- The divider definition of the next test with one field changed. -/
def divider (f : ShutterReq → ShutterReq) : Instr := .defineShutter 1 23 (f ⟨7, 1, none, 255#8, 0#8, 3, 5, 60, 0, 20, 10⟩)

/-- R69: fields at and beyond their limits; a shutter on a bridge; an OPENING shutter that is not OPEN by a moving loop.
-/
theorem witness_DefineShutterTestsAndWrites :
    outcomes State.reset
        [divider id, divider (fun v => { v with floor := 8 }), divider (fun v => { v with kind := 3 }),
          divider (fun v => { v with priority := 4 }), divider (fun v => { v with opening := some 0 }),
          divider (fun v => { v with kind := 0, opening := some 15 }),
          divider (fun v => { v with kind := 0, opening := some 16 }), divider (fun v => { v with kind := 2, travel := 4 }),
          .defineShutter 1 24 ⟨0, 1, none, 0#8, 0#8, 0, 5, 5, 0, 2, 1⟩] =
      [.done, .badValue, .badValue, .badValue, .badValue, .done, .badValue, .clamped, .badValue] ∧
    outcome (bridge 3 (.dwell (some 5) false true) (some 23) State.reset) (divider id) = some .wrongState ∧
    outcome (loopAt .running 0) (divider (fun v => { v with kind := 0, opening := some 15 })) = some .wrongState ∧
    (isDefined State.reset 23 = false ∧ bothLimits State.reset 23 = false) ∧
    (isDefined (shutters State.reset) 9 = true ∧ (shutterAt (shutters State.reset) 9).demand = none ∧
      (shutters State.reset).fire.latch = false) := by decide +kernel

/-- R76: no demand is PAUSED; every target kind, members at both ends, and a shutter with a fault and with a higher
class. -/
theorem witness_ShutterRequestsPlaceHostDemands :
    (∀ i < 24, demandOf (shutters State.reset) i = none) ∧
    outcomes (shutters State.reset)
        [.shutterClose 1 0 (.one 9), .shutterOpen 1 0 (.one 9), .shutterClose 1 0 (.one 8), .shutterClose 1 0 (.one 24),
          .shutterClose 1 0 .all, .shutterClose 1 1 (.one 7), .shutterClose 1 1 (.one 8), .shutterOpen 1 2 (.one 7),
          .shutterClose 1 2 (.one 8), .shutterClose 1 3 .all, .shutterClose 1 3 (.one 0), .shutterClose 1 4 .all] =
      [.done, .done, .badValue, .badValue, .badValue, .done, .badValue, .done, .badValue, .done, .badValue, .badValue] ∧
    outcome (demanding 9 .open .close .closing .heldByLoop id (shutters State.reset)) (.shutterClose 1 0 (.one 9)) =
      some .wrongState ∧
    outcome (latched 1#8 (shutters State.reset)) (.shutterClose 1 3 .all) = some .fireMode := by decide +kernel

/-- R74: shutter 4 of opening 2 stands idle and open: a moving loop, an active sill sensor, a car in the opening, and none
of these. -/
def idleShutter (s : State) : Bool :=
  !s.link.closed && (s.prog.st != .held) && !s.fire.latch && (s.cfg.shutters.get 4 == some (aShutter .opening (some 2)))
    && ((shutterAt s 4).fault.isNone && (shutterAt s 4).demand.isNone) && ((shutterAt s 4).motion != .closed)
    && (bridgeOf s 4).isNone

theorem witness_OpeningInterlockHoldsTheDemand :
    [shutters (loopAt .running 1185), shutters (input 2 true (loopAt .parked 1233)), shutters (loopAt .parked 1185),
        shutters (loopAt .parked 1233)].map (fun s =>
          (idleShutter s, interlockFails s 4, newest (after (.shutterClose 1 0 (.one 4)) s))) =
      [(true, some 1, some (.shutterHeld, some 4, 1)), (true, some 2, some (.shutterHeld, some 4, 2)),
        (true, some 3, some (.shutterHeld, some 4, 3)), (true, none, some (.directoryLost, none, 1))] := by decide +kernel

/-- R102: what waits for a bridge, by the status of the demands. -/
theorem waiting {b : Option Nat} {s : State} {j : Nat} (h : j < 24) (hw : hasStatus s j .waitingBridge = true)
    (hc : ∀ f < 4, b ≠ some f → (bridgeAt s f).shutter ≠ some j) : Waiting b s j := by
  unfold hasStatus at hw
  match hd : demandOf s j with
  | none => simp [hd] at hw
  | some d => exact ⟨h, ⟨d, hd, by simpa [hd] using hw⟩, hc⟩

theorem not_waiting {b : Option Nat} {s : State} {xs : List Nat}
    (h : ∀ j < 24, hasStatus s j .waitingBridge = true → j ∈ xs) : ∀ j, Waiting b s j → j ∈ xs :=
  fun j ⟨hj, ⟨_, hd, hs⟩, _⟩ => h j hj (by simp [hasStatus, hd, hs])

/-- R103: the interlock passes with a bridge FREE and none waiting, and with every bridge OUT_OF_SERVICE. -/
def noBridge (s : State) : State := (List.range 4).foldl (fun t b => bridge b .outOfService none t) s

theorem witness_OfferedABridge :
    (∀ s ∈ [shutters (loopAt .parked 1233), bridge 0 .outOfService none (shutters (loopAt .parked 1233))],
      idleShutter s = true ∧ interlockFails s 4 = none ∧ s.field.lost = false ∧ (∀ j, ¬ Waiting none s j) ∧
        ∃ f < 4, (bridgeAt s f).st = .free ∧ ∀ g < f, (bridgeAt s g).st ≠ .free) ∧
    (let s := noBridge (shutters (loopAt .parked 1233));
      idleShutter s = true ∧ interlockFails s 4 = none ∧ ∀ f < 4, (bridgeAt s f).st ≠ .free) := by
  refine ⟨?_, by decide +kernel⟩
  intro s hs
  simp only [List.mem_cons, List.not_mem_nil, or_false] at hs
  rcases hs with rfl | rfl
  · exact ⟨by decide +kernel, by decide +kernel, by decide +kernel,
      fun j h => by simpa using not_waiting (xs := []) (by decide +kernel) j h, 0, by decide +kernel⟩
  · exact ⟨by decide +kernel, by decide +kernel, by decide +kernel,
      fun j h => by simpa using not_waiting (xs := []) (by decide +kernel) j h, 1, by decide +kernel⟩

theorem test_offers :
    [shutters (loopAt .parked 1233), bridge 0 .outOfService none (shutters (loopAt .parked 1233)),
        noBridge (shutters (loopAt .parked 1233))].map (fun s =>
          let t := after (.shutterClose 1 0 (.one 4)) s
          ((demandOf t 4).map Demand.status, bridgeOf t 4)) =
      [(some .checking, some 0), (some .checking, some 1), (some .waitingBridge, none)] := by decide +kernel

/-- R109: a test, a shutter that is not defined, one that moves, one with a fault, and one whose sweep check goes on. -/
theorem witness_ShutterTestPlacesATestDemand :
    outcomes (shutters State.reset) [.shutterTest 1 9, .shutterTest 1 8, .shutterTest 1 24] =
      [.accepted, .badValue, .badValue] ∧
    [demanding 9 .lowering .close .host .moving (fun x => { x with demand := none }) (shutters State.reset),
        demanding 9 .open .close .host .moving (fun x => { x with demand := none, fault := some .openCircuit })
          (shutters State.reset),
        bridge 3 (.dwell (some 5) false true) (some 9) (shutters State.reset),
        bridge 3 (.checking .sweep [(false, false)] 30) (some 9) (shutters State.reset)].map
          (fun s => outcome s (.shutterTest 1 9)) =
      [some .wrongState, some .wrongState, some .wrongState, some .accepted] ∧
    sweepOf (bridge 3 (.checking .sweep [(false, false)] 30) (some 9) (shutters State.reset)) 9 = some 3 := by decide +kernel

/-- A check of the DIVIDER on bridge 3 that has read some settings. -/
def checking (p : Purpose) (lv : List (Bool × Bool)) (d : DemandDir) : State :=
  demanding 9 .closed d .host .checking id (bridge 3 (.checking p lv 30) (some 9) (shutters State.reset))

theorem witness_CheckSettingsClassifyTheMotor :
    (bridgeAt (checking .preTravel [] .open) 3).st = .checking .preTravel [] 30 ∧
    (bridgeAt (checking .test [(false, false), (true, true)] .test) 3).st =
      .checking .test [(false, false), (true, true)] 30 ∧
    (let s := checking .preTravel [(false, false), (true, true)] .open;
      s.prog.st ≠ .held ∧ (bridgeAt s 3).shutter = some 9 ∧ bridgeOf s 9 = some 3 ∧
        s.cfg.shutters.get 9 = some (aShutter .divider none) ∧ (demandOf s 9).map Demand.dir = some .open ∧
        (shutterAt s 9).motion ≠ .open) := by decide +kernel

/-- Section 5.4: the four rows of the table of levels, and levels of no row. -/
theorem test_check_results :
    [([(false, false), (true, true)], true, true), ([(false, false), (true, false)], false, true),
        ([(true, true), (true, true)], true, true), ([(false, false), (false, false)], false, false),
        ([(false, true), (true, true)], true, true)].map (fun r =>
          ((shutterAt (after (.checkSettingEnd 3 r.2.1 r.2.2) (checking .test r.1 .test)) 9).lastCheck.map Prod.fst)) =
      [some .normal, some .openWinding, some .shortSupply, some .shortGround, some .unclassified] ∧
    (shutterAt (after (.checkSettingEnd 3 true true) (checking .preTravel [(false, false), (true, true)] .open)) 9).motion =
      .raising := by decide +kernel

/-- Bridge 3 has a suspicion record and a withdrawal. -/
def suspected (x : Option Nat) (w : Option (Nat × Nat)) (s : State) : State :=
  { s with bridges := { s.bridges with
    units := s.bridges.units.put 3 { bridgeAt s 3 with suspect := x, withdrawn := w } } }

/-- R112, R113: after a SHORT_SUPPLY of shutter 9: the record empty, with the same shutter and with another, after a test
and before a travel; then a NORMAL and an OPEN_WINDING result. -/
theorem test_suspicion :
    let ends : List State := [(Purpose.test, none), (.test, some 9), (.test, some 4), (.preTravel, none),
        (.preTravel, some 4)].map (fun x =>
      after (.checkSettingEnd 3 true true) (suspected x.2 none (checking x.1 [(true, true), (true, true)] .open)));
    (ends.map (fun t => (bridgeAt t 3).st) =
        [.free, .free, .outOfService, .dwell (some 280) false false, .dwell (some 280) false false]) ∧
    (ends.map (fun t => ((bridgeAt t 3).suspect, (bridgeAt t 3).withdrawn)) =
        [(some 9, none), (some 9, none), (none, none), (some 9, none), (none, some (4, 9))]) ∧
    (ends.map newest =
        [some (.checkResult, some 9, 2 + 256 * 3 + 1024), some (.checkResult, some 9, 2 + 256 * 3 + 1024),
          some (.bridgeOut, some 3, 4 + 256 * 9), some (.checkResult, some 9, 2 + 256 * 3),
          some (.checkResult, some 9, 2 + 256 * 3)]) ∧
    [(true, [(false, false), (true, true)]), (false, [(false, false), (true, false)])].map (fun x =>
        (bridgeAt (after (.checkSettingEnd 3 x.1 true) (suspected (some 4) none (checking .test x.2 .test))) 3).suspect) =
      [none, some 4] := by
  refine ⟨?_, ?_, ?_, ?_⟩ <;> decide +kernel

/-- A travel that ends, a retry wait that ends and a pause that ends. -/
def travelling : State :=
  demanding 9 .lowering .close .host .moving (fun x => { x with travel := some 700 })
    (bridge 3 (.driving false 0 0 none) (some 9) (shutters State.reset))

def retrying : State :=
  demanding 4 .stoppedMid .close .host .retryWait (fun x => { x with retry := some 700 }) (shutters (loopAt .running 0))

def paused : State :=
  demanding 9 .stoppedMid .close .fire .paused (fun x => { x with pause := some 700 })
    (bridge 3 (.dwell none true true) (some 9) (latched 1#8 (shutters State.reset)))

theorem witness_ShutterTimersExpire :
    ((shutterAt travelling 9).travel = some 700 ∧ bridgeOf travelling 9 = some 3 ∧
      (bridgeAt travelling 3).st = .driving false 0 0 none ∧ (shutterAt travelling 9).motion.driven = true) ∧
    ((shutterAt retrying 4).retry = some 700 ∧ (demandOf retrying 4).map Demand.status = some .retryWait ∧
      interlockFails retrying 4 = some 1) ∧
    (let s := demanding 9 .stoppedMid .close .closing .retryWait (fun x => { x with retry := some 700 }) (shutters State.reset);
      interlockFails s 9 = none ∧ ∀ g < 4, (bridgeAt s g).shutter ≠ some 9 ∧ (bridgeAt s g).st = .free) ∧
    ((shutterAt paused 9).pause = some 700 ∧ (demandOf paused 9).map Demand.status = some .paused ∧
      (shutterAt paused 9).motion ≠ .closed ∧ bridgeOf paused 9 = some 3 ∧ active paused (edgePoint 9) = false) := by
  decide +kernel

/-- R82, R86: the timers at their time. -/
theorem test_shutter_timers :
    newest (after (.travelTimer 9) travelling) = some (.shutterFault, some 9, 6) ∧
    newest (after (.retryTimer 4) retrying) = some (.shutterHeld, some 4, 1) ∧
    (shutterAt (after (.pauseTimer 9) paused) 9).travel = some 30700 := by decide +kernel

/-- A drive in its grace, a dwell of each kind, and the sweep of the two idle shutters. -/
theorem witness_BridgeTimersExpire :
    (bridgeAt (bridge 3 (.driving true 0 0 (some 300)) (some 9) State.reset) 3).st = .driving true 0 0 (some 300) ∧
    (let s := bridge 3 (.dwell (some 250) false true) (some 9) (shutters State.reset);
      (bridgeAt s 3).shutter = some 9 ∧ (shutterAt s 9).demand = none ∧ (bridgeAt s 3).withdrawn = none ∧
        grantQueue s = [] ∧ s.bridges.sweepDue = false) ∧
    (bridgeAt (bridge 3 (.dwell (some 250) true true) (some 9) State.reset) 3).st = .dwell (some 250) true true ∧
    (let s := shutters State.reset;
      s.bridges.sweepTimer = some 600000 ∧ s.cfg.bridges.sweep ≠ 0 ∧ s.field.lost = false ∧ s.fire.latch = false ∧
        grantQueue s = [] ∧ sweepBridge s = none ∧ (bridgeAt s 0).st = .free ∧
        ((List.range 24).map (fun k => (s.bridges.cursor + k) % 24)).find?
          (fun j => isDefined s j && decide ((shutterAt s j).motion = .open ∨ (shutterAt s j).motion = .closed) &&
            (shutterAt s j).demand.isNone && (shutterAt s j).fault.isNone && (bridgeOf s j).isNone) = some 4) := by
  decide +kernel

/-- The dwell of bridge 3 ends, the other bridges are OUT_OF_SERVICE and shutter 4 waits with a demand of a class; shutter 9,
on bridge 3, waits too. -/
def queued (c : DemandClass) : State :=
  demanding 9 .open .close .host .waitingBridge id
    (demanding 4 .open .open c .waitingBridge id
      (bridge 3 (.dwell (some 250) false true) (some 9) (noBridge (shutters State.reset))))

/-- R102, R103: of two with one priority and one time the lower id stands first, and FIRE stands before HOST. -/
theorem witness_BridgeGoesOn :
    ∀ s ∈ [queued .host, queued .fire],
      (bridgeAt s 3).st = .dwell (some 250) false true ∧ bridgeOf s 9 = some 3 ∧ (bridgeAt s 3).withdrawn = none ∧
        s.field.lost = false ∧ Waiting (some 3) s 4 ∧ Waiting (some 3) s 9 ∧ ¬ Waiting none s 9 ∧
        (∀ k, Waiting (some 3) s k → k = 4 ∨ GrantedBefore s 4 k) ∧ ∀ f < 3, (bridgeAt s f).st ≠ .free := by
  intro s hs
  simp only [List.mem_cons, List.not_mem_nil, or_false] at hs
  rcases hs with rfl | rfl <;>
    exact ⟨by decide +kernel, by decide +kernel, by decide +kernel, by decide +kernel,
      waiting (by decide) (by decide +kernel) (by decide +kernel),
      waiting (by decide) (by decide +kernel) (by decide +kernel),
      fun h => h.2.2 3 (by decide) (by decide) (by decide +kernel),
      fun k h => by
        have hk := not_waiting (xs := [4, 9]) (by decide +kernel) k h
        simp only [List.mem_cons, List.not_mem_nil, or_false] at hk
        rcases hk with rfl | rfl
        · exact .inl rfl
        · exact .inr (by unfold GrantedBefore; decide +kernel),
      by decide +kernel⟩

/-- R103, R113: the freed bridge goes to the head; a withdrawn one is OUT_OF_SERVICE, with the two shutters of the worked
case of section 5.11. -/
theorem test_bridge_goes_on :
    (bridgeAt (after (.dwellTimer 3) (queued .host)) 3).shutter = some 4 ∧
    (bridgeAt (after (.dwellTimer 3) (queued .host)) 3).st = .checking .preTravel [] 280 ∧
    (let t := after (.dwellTimer 3) (suspected none (some (14, 3)) (queued .host));
      (bridgeAt t 3).st = .outOfService ∧ newest t = some (.bridgeOut, some 3, 14 + 256 * 3)) := by decide +kernel

/-- The DIVIDER stands in the dwell of bridge 3 under a demand. -/
def dwelling (m : Motion) (d : DemandDir) (c : DemandClass) (st : DemandStatus) (n : Nat) : State :=
  demanding 9 m d c st (fun x => { x with obstructions := n })
    (bridge 3 (.dwell (some 250) false true) (some 9) (shutters (loopAt .running 0)))

/-- R80, R83, R85, R86: a dwell that ends with the demand at its target, with a reversal up and down, held by the loop
(of shutter 4, kind OPENING), and under a RECOVERING demand below the top and at it, for each class and past the retry
limit. -/
theorem witness_dwells_end :
    let held : State := demanding 4 .open .close .host .dwelling id
      (bridge 3 (.dwell (some 250) false true) (some 4) (shutters (loopAt .running 0)));
    (∀ s ∈ [dwelling .closed .close .host .dwelling 0, dwelling .stoppedMid .open .host .dwelling 0,
        dwelling .stoppedMid .close .host .dwelling 0, dwelling .open .close .closing .recovering 1],
      (bridgeAt s 3).st = .dwell (some 250) false true ∧ bridgeOf s 9 = some 3 ∧ (demandOf s 9).isSome = true ∧
        interlockFails s 9 = none ∧ active s (edgePoint 9) = false ∧ (bridgeAt s 3).withdrawn = none ∧
        grantQueue s = [] ∧ s.bridges.sweepDue = false) ∧
    bridgeOf held 4 = some 3 ∧ interlockFails held 4 = some 1 ∧
    newest (after (.dwellTimer 3) held) = some (.shutterHeld, some 4, 1) ∧
    [dwelling .closed .close .host .dwelling 0, dwelling .open .open .host .dwelling 0,
        dwelling .stoppedMid .open .host .dwelling 0, dwelling .stoppedMid .close .host .dwelling 0,
        dwelling .stoppedMid .close .closing .recovering 1, dwelling .open .close .host .recovering 1,
        dwelling .open .close .closing .recovering 1, dwelling .open .close .closing .recovering 2].map (fun s =>
        let t := after (.dwellTimer 3) s
        ((shutterAt t 9).motion, (demandOf t 9).map Demand.status, bridgeOutput t 3)) =
      [(.closed, none, .floating), (.open, none, .floating), (.raising, some .moving, .drive true),
        (.lowering, some .moving, .drive false), (.raising, some .recovering, .drive true), (.open, none, .floating),
        (.open, some .retryWait, .floating), (.open, none, .floating)] := by decide +kernel

/-- Sections 5.1 and 5.3: the terminals through a check, in a dwell and in a free bridge. -/
theorem test_bridge_outputs :
    let c (lv : List (Bool × Bool)) : BridgeState := .checking .test lv 30;
    [c [], c [(false, false)], c [(false, false), (true, true)], .dwell (some 250) false true, .free, .outOfService].map
        (fun st => bridgeOutput (bridge 3 st none State.reset) 3) =
      [.test false false, .test true false, .test false true, .shorted, .floating, .floating] := by decide +kernel

/-- A bridge that drives the DIVIDER upward, and downward after its grace; its channel is converted next. -/
def driving (raise : Bool) (sr op : Nat) (b : Fin 4) : State :=
  let s := demanding 9 (if raise then .raising else .lowering) (if raise then .open else .close) .host .moving id
    (bridge b (.driving raise sr op none) (some 9) (shutters State.reset))
  { s with fire := { s.fire with channel := 8 + b } }

theorem witness_CurrentReadingsSuperviseTheDrive :
    ∀ b : Fin 4, ∀ x ∈ [(true, 0, 0), (true, 1, 0), (false, 0, 2)],
      let s := driving x.1 x.2.1 x.2.2 b;
      s.fire.channel = 8 + b ∧ (bridgeAt s b).st = .driving x.1 x.2.1 x.2.2 none ∧ (bridgeAt s b).shutter = some 9 ∧
        bridgeOf s 9 = some b.val ∧ (demandOf s 9).map Demand.status = some .moving := by decide +kernel

/-- R107: readings at the two thresholds 800 and 20. -/
theorem test_readings :
    [(799, 1), (800, 0)].map (fun x => (bridgeAt (after (.conversionComplete x.1) (driving true x.2 0 3)) 3).st) =
      [.driving true 0 0 none, .driving true 1 0 none] ∧
    newest (after (.conversionComplete 800) (driving true 1 0 3)) = some (.shutterObstructed, some 9, 2) ∧
    newest (after (.conversionComplete 19) (driving false 0 2 3)) = some (.shutterFault, some 9, 5) ∧
    (bridgeAt (after (.conversionComplete 20) (driving false 0 2 3)) 3).st = .driving false 0 0 none := by decide +kernel

/-- R84, R87, R107: the second stall reading while LOWERING, under a demand of each class, once past the pause limit; and
readings below the open threshold within the grace and after it. -/
theorem witness_readings_while_lowering :
    let low (c : DemandClass) (st : BridgeState) (n : Nat) : State :=
      let s := demanding 9 .lowering .close c .moving (fun x => { x with obstructions := n })
        (bridge 3 st (some 9) (shutters State.reset));
      { s with fire := { s.fire with channel := 11 } };
    let stalled : BridgeState := .driving false 1 0 none;
    (∀ s ∈ [low .host stalled 0, low .fire stalled 2, low .fire stalled 3],
      s.cfg.bridges.stall ≤ 800 ∧ (shutterAt s 9).motion = .lowering ∧ bridgeOf s 9 = some 3 ∧
        s.cfg.shutters.get 9 = some (aShutter .divider none)) ∧
    [low .host stalled 0, low .fire stalled 2, low .fire stalled 3].map (fun s =>
        let t := after (.conversionComplete 800) s
        ((demandOf t 9).map Demand.status, (shutterAt t 9).obstructions, (shutterAt t 9).pause, bridgeOutput t 3)) =
      [(some .recovering, 1, none, .shorted), (some .paused, 3, some 5002, .shorted), (none, 4, none, .shorted)] ∧
    [BridgeState.driving false 1 2 (some 300), .driving false 1 1 none].map (fun st =>
        (bridgeAt (after (.conversionComplete 19) (low .host st 0)) 3).st) =
      [.driving false 0 0 (some 300), .driving false 0 2 none] := by decide +kernel

/-! ### Bells -/

/-- R117, R118: codes, groups and stations at and beyond their limits; a call of the station keeps its entry. -/
theorem witness_CodesAndStationsAreDefined :
    outcomes State.reset
        [.defineCode 1 15 [1, 6] 3 none, .defineCode 1 16 [1] 0 none, .defineCode 1 0 [] 0 none,
          .defineCode 1 0 [1, 1, 1, 1, 1] 0 none, .defineCode 1 0 [1] 4 none, .defineCode 1 0 [7] 0 none,
          .defineCode 1 0 [1] 0 (some (9, 15)), .defineCode 1 0 [1] 0 (some (10, 14))] =
      [.done, .badValue, .badValue, .badValue, .badValue, .clamped, .done, .clamped] ∧
    outcomes belled
        [.defineStation 1 47 1 (some (7, 4)), .defineStation 1 47 0 none, .defineStation 1 48 0 none,
          .defineStation 1 0 2 none, .defineStation 1 0 1 (some (8, 4)), .defineStation 1 0 1 (some (0, 16)),
          .defineStation 1 0 1 (some (0, 5))] =
      [.done, .done, .badValue, .badValue, .badValue, .badValue, .badValue] ∧
    outcome (line { Line.rest with queue := [aCall (.station 10) 4 .waiting 0 none] } belled) (.defineStation 1 10 0 none) =
      some .wrongState := by decide +kernel

/-- R121: an idle line, a busy one with the call and without it, and a full queue. -/
def busyLine (n : Nat) : State :=
  line { Line.rest with st := .gap, queue := (List.range n).map (fun k => aCall (.station k) 4 .waiting 0 none) } belled

theorem witness_BellRingIsTakenOnItsLines :
    belled.cfg.codes.get 4 = some { groups := [2, 1], urgency := 1, maxRepeats := 1, interval := 60 } ∧
    belled.fire.latch = false ∧
    (lineAt (line { Line.rest with queue := [aCall .link 4 .waiting 0 none] } belled) 2).queue.find?
      (fun y => decide (y.origin = .link ∧ y.code = 4)) = some (aCall .link 4 .waiting 0 none) ∧
    [belled, busyLine 7, busyLine 8].map (fun s => outcome s (.bellRing 1 (.one 2) 4)) =
      [some .done, some .done, some .queueFull] ∧
    (lineAt belled 2).st = .idle ∧ (lineAt (busyLine 7) 2).st ≠ .idle := by decide +kernel

/-- R121, R122: the refusals, the fullest lines with ALL, and the answers of the lines: created, raised and refused. -/
theorem test_bell_rings :
    [(latched 1#8 belled, Member.all, 4), (belled, .one 8, 4), (belled, .one 7, 16), (belled, .all, 5), (belled, .all, 15)].map
        (fun p => outcome p.1 (.bellRing 1 p.2.1 p.2.2)) =
      [some .fireMode, some .badValue, some .badValue, some .badValue, some .badValue] ∧
    [busyLine 8, busyLine 0, line { Line.rest with queue := [aCall .link 4 .waiting 0 none] } belled].map (fun s =>
        let t := after (.bellRing 1 .all 4) s
        (t.link.reply.map Reply.payload, (lineAt t 2).queue.map Call.urgency, (lineAt t 7).st)) =
      [(some [4#8, 0#8, 0#8, 2#8, 0#8, 0#8, 0#8, 0#8, 0#8], List.replicate 8 1, .call),
        (some (List.replicate 8 0#8), [1], .call), (some [0#8, 0#8, 1#8, 0#8, 0#8, 0#8, 0#8, 0#8], [2], .call)] ∧
    (let t := after (.bellRing 1 .all 4) (busyLine 8);
      t.link.reply.map Reply.outcome = some .queueFull ∧ newest t = some (.callRefused, some 2, 1279)) := by decide +kernel

/-- R128: an undefined code, and calls that are removed. -/
theorem witness_BellAnswerRemovesTheCalls :
    outcomes (busyLine 2)
        [.bellAnswer 1 (.one 8) 4, .bellAnswer 1 .all 16, .bellAnswer 1 (.one 7) 15, .bellAnswer 1 (.one 2) 4] =
      [.badValue, .badValue, .done, .done] ∧
    (lineAt (after (.bellAnswer 1 .all 4) (busyLine 2)) 2).queue = [] ∧
    ((after (.bellAnswer 1 .all 4) (busyLine 2)).link.reply.map Reply.payload) = some [2#8] := by decide +kernel

/-- R134: the latch clear and set, a line beyond the last, and a line that rings. -/
theorem witness_BellSilenceSilencesTheNamedLines :
    (let s := latched 1#8 (line { Line.rest with st := .fireRinging, timer := some 600 } State.reset);
      State.reset.fire.latch = false ∧ s.fire.latch = true ∧ (lineAt s 2).st = .fireRinging ∧
        outcomes s [.bellSilence 1 (.one 7), .bellSilence 1 (.one 8)] = [.done, .badValue] ∧
        (lineAt (after (.bellSilence 1 .all) s) 2).st = .silenced) := by decide +kernel

/-- The line of code 4 (groups 2 and 1) at a position. -/
def sounding (g k : Nat) (on : Bool) : Line :=
  { Line.rest with
    st := .call, queue := [aCall (.station 10) 4 (.sounding false) 0 none], pattern := [2, 1], group := g, stroke := k
    on, striker := if on then some 80 else none, timer := if on then none else some 900 }

/-- R128 to R130: BELL ANSWER of the code that sounds: in an on-time, between strokes, with strokes pending, and of another
code; the lamps of its station, of another that is unanswered and of one of the other code. -/
theorem test_bell_answer :
    let lamps (s : State) : State := { s with bells := { s.bells with
      lamps := ((s.bells.lamps.put 10 { steady := .pending, flash := some 9 }).put 11 { steady := .unanswered, flash := none })
        |>.put 12 { steady := .unanswered, flash := none } } };
    let s (x : Line) : State :=
      let u := lamps (line x belled)
      { u with cfg := { u.cfg with stations := u.cfg.stations.put 12 (some { line := 2, code := 4 }) } };
    let answered (x : Line) (c : Nat) : Line := lineAt (after (.bellAnswer 1 (.one 2) c) (s x)) 2;
    [answered (sounding 0 1 true) 4, answered (sounding 0 1 false) 4,
        answered { sounding 0 1 false with pending := some 3 } 4, answered (sounding 0 1 true) 7].map (fun y =>
          (y.st, y.queue.length, y.timer, y.striker, y.left)) =
      [(.gap, 0, none, some 80, 0), (.gap, 0, some 2500, none, 0), (.strokes, 0, some 1000, some 80, 3),
        (.call, 1, none, some 80, 0)] ∧
    [10, 11, 12].map (fun n =>
        ((after (.bellAnswer 1 .all 4) (s (sounding 0 1 true))).bells.lamps.get n)) =
      [{ steady := .off, flash := some 9 }, { steady := .unanswered, flash := none }, { steady := .off, flash := none }] := by
  decide +kernel

/-- A line with a call of station 10 that awaits its repeat, after one repeat more than its greatest number or not. -/
def awaiting (n : Nat) : State :=
  line { Line.rest with st := .gap, queue := [aCall (.station 10) 4 .awaitingRepeat n (some 500)] } belled

theorem witness_BellTimersExpire :
    ((sounding 0 0 true).striker = some 80 ∧ (sounding 0 0 true).deferred = false ∧ (sounding 0 0 true).st = .call ∧
      (sounding 0 0 true).pending = none ∧ (sounding 0 0 false).timer = some 900) ∧
    (∀ g k on, (lineAt (line (sounding g k on) belled) 2) = sounding g k on) ∧
    (∀ n, (lineAt (awaiting n) 2).queue.find? (fun z => decide (z.origin = .station 10 ∧ z.code = 4)) =
      some (aCall (.station 10) 4 .awaitingRepeat n (some 500))) ∧
    ((awaiting 2).cfg.codes.get 4).map CodeDef.maxRepeats = some 1 := by
  refine ⟨by decide +kernel, fun _ _ _ => rfl, fun _ => rfl, by decide +kernel⟩

/-- The other states a line's timers find: a deferred gap, closing strokes with two and with one left, a gap with no call,
fire ringing; and a lamp that flashes. -/
theorem witness_BellTimersExpire_other :
    (let x := { Line.rest with st := .gap, deferred := true, striker := some 80 }; x.deferred = true ∧ x.st = .gap) ∧
    (∀ n ∈ [2, 1], let x := { Line.rest with st := .strokes, left := n, timer := some 900 };
      x.st = .strokes ∧ x.left = n ∧ x.pending = none ∧ x.striker = none) ∧
    (let x := { Line.rest with st := .gap, timer := some 900 }; x.queue = [] ∧ x.pending = none ∧ x.striker = none) ∧
    (let s := { State.reset with bells := { State.reset.bells with
        lamps := State.reset.bells.lamps.put 47 { steady := .pending, flash := some 500 } } };
      (s.bells.lamps.get 47).flash = some 500) := by decide +kernel

/-- Section 6.10: stroke gap, group gap and code gap of code 4, and the call that goes unanswered. -/
theorem test_bell_times :
    [(0, 0), (0, 1), (1, 0)].map (fun x =>
        (lineAt (after (.strikerOnTimeEnd 2) (line (sounding x.1 x.2 true) belled)) 2).timer) =
      [some 380, some 980, some 2580] ∧
    newest (after (.callDueTime 2 (.station 10) 4) (awaiting 2)) = some (.callUnanswered, some 2, 1034) ∧
    newest (after (.callDueTime 2 (.station 10) 4) (awaiting 1)) = some (.directoryLost, none, 1) := by decide +kernel

/-- A line with a LINK call of code 7 raised at 5, a station call of code 4 raised at 4, the same of code 7, more
urgent, and one that awaits its repeat. -/
def fourCalls (st : LineState) (on : Option Nat) : Line :=
  { Line.rest with
    st, striker := on, timer := if st = .gap then some 900 else none
    queue :=
      [{ aCall .link 7 .waiting 0 none with raisedSeq := 5 }, { aCall (.station 10) 4 .waiting 0 none with raisedSeq := 4 },
        { aCall (.station 11) 7 .waiting 0 none with urgency := 2, raisedSeq := 9 },
        { aCall .link 4 .awaitingRepeat 0 (some 500) with raisedSeq := 1 }] }

/-- R124: the most urgent call goes first, then the earlier raised; a ring on an idle line joins the selection; a due
time makes its call eligible; with an on-time in progress the first stroke waits; with no call that may sound the line
rests. -/
theorem witness_LinesTakeTheirTurns :
    (∀ y ∈ (fourCalls .gap none).queue, y.urgency = 2 →
      MaySound y ∧ ∀ z ∈ (fourCalls .gap none).queue, MaySound z → GoesBefore y z ∨ z.origin = y.origin ∧ z.code = y.code) ∧
    ([(fourCalls .gap none, none), (fourCalls .gap (some 950), none), (fourCalls .gap none, some 2)].map
        (fun p => lineAt (after (.lineTimer 2) (line { p.1 with pending := p.2 } belled)) 2)).map
        (fun x => (x.st, x.pattern, x.on, x.striker, x.deferred)) =
      [(.call, [3], true, some 980, false), (.call, [3], false, some 950, true), (.strokes, [], false, some 980, false)] ∧
    ([Instr.bellRing 1 (.one 2) 4, .callDueTime 2 .link 4].map (fun c =>
        (lineAt (after c (line { fourCalls .idle none with
          queue := [aCall .link 7 .waiting 0 none, aCall .link 4 .awaitingRepeat 0 (some 500)] } belled)) 2).pattern)) =
      [[], [2, 1]] ∧
    (lineAt (after (.lineTimer 2) (line { Line.rest with
      st := .gap, timer := some 900, queue := [aCall .link 4 .awaitingRepeat 0 (some 500)] } belled)) 2).st = .idle := by
  refine ⟨?_, ?_, ?_, ?_⟩
  · unfold MaySound GoesBefore
    decide +kernel
  all_goals decide +kernel

/-- R132: pending strokes inside a group, at the end of a group, at the end of the code and at the end of strokes. -/
theorem test_pending_strokes :
    [sounding 0 0 true, sounding 0 1 true, sounding 1 0 true].map (fun x =>
        let y := lineAt (after (.strikerOnTimeEnd 2) (line { x with pending := some 3 } belled)) 2
        (y.st, y.left, y.queue.map Call.st, y.queue.map Call.repeats)) =
      [(.call, 0, [.sounding false], [0]), (.strokes, 3, [.waiting], [0]), (.strokes, 3, [.awaitingRepeat], [1])] ∧
    [1, 2].map (fun n =>
        (lineAt (after (.lineTimer 2)
          (line { Line.rest with st := .strokes, left := n, pending := some 3, timer := some 900 } belled)) 2).left) =
      [3, 1] := by decide +kernel

/-! ### Phrases -/

/-- R141, R142, R145, R147: lengths at their limits, a phrase in each state, a store that is full. -/
theorem witness_PhrasesAreOpenedClosedAndDeleted :
    outcomes (phrased State.reset)
        [.phraseOpen 1 64 1, .phraseOpen 1 0 0, .phraseOpen 1 0 1044481, .phraseOpen 1 0 1044480, .phraseOpen 1 5 1,
          .phraseOpen 1 3 1, .phraseClose 1 64, .phraseClose 1 0, .phraseClose 1 3, .phraseClose 1 5, .phraseDelete 1 64,
          .phraseDelete 1 0] =
      [.badValue, .badValue, .badValue, .noSpace, .wrongState, .wrongState, .badValue, .wrongState, .done, .notReady,
        .badValue, .done] ∧
    [Instr.phraseOpen 1 63 1, .phraseDelete 1 3, .phraseDelete 1 5].map
        (fun c => (after c (phrased State.reset)).link.waiting.isSome) = [true, true, true] ∧
    freePages (phrased State.reset) ≠ [] := by decide +kernel

/-- R143: the worked case of section 7.7: 150 bytes from offset 4000 of phrase 5 go to the last 96 bytes of page 2 and the
first 54 of page 4; one byte more than the phrase's 4196 is refused, and so is another offset. -/
theorem witness_PhraseDataIsWrittenToItsPages :
    (phraseAt (phrased State.reset) 5 = .loading 4196 4000 ∧ (phrased State.reset).phrases.busy = none ∧
      memoryWf (phrased State.reset).store = true ∧
      [0, 95, 96, 149].map (fun i => byteAddress (phrased State.reset) 5 (4000 + i)) = [12192, 12287, 16384, 16437] ∧
      ∀ i < 150, byteAddress (phrased State.reset) 5 (4000 + i) = if i < 96 then 12192 + i else 16288 + i) ∧
    outcomes (phrased State.reset)
        [.phraseData 1 64 0 [7#8], .phraseData 1 5 4000 [], .phraseData 1 5 3999 [7#8],
          .phraseData 1 5 4000 (List.replicate 197 7#8), .phraseData 1 0 0 [7#8], .phraseData 1 3 0 [7#8]] =
      [.badValue, .badValue, .outOfOrder, .badValue, .wrongState, .wrongState] ∧
    (let s := after (.phraseData 1 5 4000 (List.replicate 150 7#8)) (phrased State.reset);
      s.phrases.busy = some .write ∧ (s.phrases.stream.map (fun x => x.chunks.length)) = some 2) := by decide +kernel

/-- R139, R144: the records and the page map agree; with nothing LOADING, and with a phrase LOADING. -/
theorem witness_DirectoryLoadsBack : ∀ s ∈ [State.reset, phrased State.reset], PagesOk s := by
  have h : ∀ s ∈ [State.reset, phrased State.reset],
      (∀ p < 64, phraseAt s p ≠ .empty →
        1 ≤ (phraseAt s p).length ∧ (phraseAt s p).length ≤ 1044480 ∧
          (pageList s p).length = ((phraseAt s p).length + 4095) / 4096) ∧
      (∀ g < 256, ∀ p ∈ (s.phrases.owners.get g).toList, p < 64 ∧ phraseAt s p ≠ .empty) := by decide +kernel
  exact fun s hs => ⟨(h s hs).1, fun g p _ hg hp => (h s hs).2 g hg p (by simp [hp])⟩

/-! ### Announcements -/

/-- R155, R156, R163, R164: an empty table, a full one, and lists and handles at and beyond their limits. -/
def fullTable : State :=
  { phrased State.reset with ann := { State.reset.ann with
    table := (List.range 12).map (fun k =>
      { handle := k + 1, cls := .general, zones := 1#8, phrases := [3], repeats := 0, restarts := 0, entry := k }) } }

theorem witness_AnnouncementsEnterAndLeaveTheTable :
    outcomes (phrased State.reset)
        [.announce 1 1#8 [3] 3, .announce 1 1#8 [3] 4, .announce 1 0#8 [3] 0, .announce 1 1#8 [] 0,
          .announce 1 1#8 (List.replicate 9 3) 0, .announce 1 1#8 [64] 0, .defineEvacuation 1 [3, 63],
          .defineEvacuation 1 [], .announceCancel 1 0, .announceCancel 1 1] =
      [.accepted, .clamped, .badValue, .badValue, .badValue, .badValue, .done, .badValue, .done, .badValue] ∧
    outcomes fullTable [.announce 1 1#8 [3] 0, .announceCancel 1 12, .announceCancel 1 13] =
      [.queueFull, .done, .badValue] ∧
    outcome (latched 1#8 (phrased State.reset)) (.announce 1 1#8 [3] 0) = some .fireMode ∧
    ((phrased State.reset).ann.table = [] ∧ (phrased State.reset).ann.wanted = false ∧
      phraseAt (phrased State.reset) 3 = .ready 5000 0) := by decide +kernel

/-- Phrase 3 on channel A: its first block is being read, and is full with the second; the gap after a pass. -/
def onAir : State := after .replySent (after (.announce 1 1#8 [3, 6] 1) (phrased State.reset))

def played : State := after .blockReadDone onAir

def passGap : State :=
  { onAir with ann := { onAir.ann with chanA := { Channel.idle with
    st := .passGap, handle := some 1, phrases := [3, 6], passes := 1, gap := some 2000 } } }

/-- R149: reads requested at one event: A goes before B in either order of asking; at another event A waits for B. -/
theorem test_reads_of_one_event :
    (let q (n seq : Nat) : ReadReq := { block := 0, addr := n, len := 256, seq };
      [requestRead .a (q 4096 7) (requestRead .b (q 8192 7) State.reset),
          requestRead .b (q 8192 7) (requestRead .a (q 4096 7) State.reset),
          requestRead .a (q 4096 8) (requestRead .b (q 8192 7) State.reset)].map
          (fun s => (s.phrases.busy, s.phrases.waitA, s.phrases.waitB)) =
        [(some (.read .a (q 4096 7) false), none, some (q 8192 7)),
          (some (.read .a (q 4096 7) false), none, some (q 8192 7)),
          (some (.read .b (q 8192 7) false), some (q 4096 8), none)]) := by decide +kernel

theorem witness_ChannelsPlayTheirPhrases :
    onAir.phrases.busy = some (.read .a { block := 0, addr := 4096, len := 256, seq := 1 } false) ∧
    (let s := after (.announceCancel 1 1) onAir;
      s.phrases.busy = some (.read .a { block := 0, addr := 4096, len := 256, seq := 1 } true) ∧
        s.phrases.waitA = none ∧ s.phrases.waitB = none ∧ s.phrases.stream = none) ∧
    ((channelAt played .a).st = .phrase ∧ (channelAt played .a).block = 0 ∧
      (channelAt played .a).buffer 0 = .full 0 (readBytes onAir.store 4096 256) ∧ (channelAt played .a).granted = some 3 ∧
      (0 + 1) * 256 < (phraseAt played 3).length ∧ (channelAt played .a).buffer 1 ≠ .empty ∧
      (channelAt played .a).offset < 256 * 0 + 256) ∧
    ((channelAt passGap .a).gap = some 2000 ∧ phraseAt passGap 3 = .ready 5000 1) ∧
    (channelAt played .b).st ≠ .phrase := by decide +kernel

/-- Channel A plays the last block of phrase 6 of the list `ps` (from place `i`) in its pass `n`, with or without a
yield mark, for the GENERAL record 1 of zone 0 with one repeat and `r` restarts. Channel B plays record 2 of zone 1;
record 3 of zone 2 waits. -/
def lastBlock (ps : List Nat) (i n r : Nat) (yield : Bool) (skips : List Nat) : State :=
  let record (h zones : Nat) (restarts : Nat) : Ann :=
    { handle := h, cls := .general, zones := BitVec.ofNat 8 zones, phrases := ps, repeats := 1, restarts, entry := h }
  let playing (h : Nat) : Channel :=
    { Channel.idle with
      st := .phrase, handle := some h, phrases := ps, index := i, granted := some 6, block := 1, nextBlock := 2
      passes := n, buf1 := .full 1 [1#8], skips, yield }
  { phrased State.reset with ann := { State.reset.ann with
    table := [record 1 1 r, record 2 2 0, { record 3 4 0 with phrases := [6] }], nextEntry := 4, lastHandle := 3
    routing := ((Tab.fill 8 none).put 0 (some .a)).put 1 (some .b)
    chanA := playing 1, chanB := { playing 2 with yield := false } } }

/-- The channels agree with the table, by tests over both. -/
theorem channelsOk {s : State}
    (h : (s.ann.chanA.handle.all (fun h => decide (s.ann.chanB.handle ≠ some h)) = true) ∧
      ∀ c ∈ [channelAt s .a, channelAt s .b], (c.st = .idle ↔ c.handle = none) ∧
        c.handle.all (fun h => decide (h = 0) || s.ann.table.any (fun r => decide (r.handle = h))) = true ∧
        (c.gap.isSome = true → c.st = .passGap) ∧ c.skipSeq.all (fun n => decide (n ≤ s.time.seq)) = true) :
    ChannelsOk s := by
  refine ⟨fun x hx => by simpa [hx] using h.1, fun ch c hc => ?_⟩
  obtain ⟨h1, h2, h3, h4⟩ := h.2 c (by cases ch <;> simp [hc.symm])
  refine ⟨h1, fun x hx => ?_, h3, fun n hn => by simpa [hn] using h4⟩
  rw [hx] at h2
  simpa using h2

/-- R93, R166: the channels, the bridge and the shutter of the state `underFire`. -/
theorem witness_fire_reset_effects : ∀ b ∈ [true, false], ChannelsOk (underFire b) ∧ (underFire b).ann.chanA.handle = some 0 ∧
    bridgeOf (underFire b) 9 = some 1 ∧ isDefined (underFire b) 9 = true ∧
    (∀ j < 24, j ≠ 9 → (bridgeAt (underFire b) 1).shutter ≠ some j) := by
  intro b hb
  simp only [List.mem_cons, List.not_mem_nil, or_false] at hb
  rcases hb with rfl | rfl <;> exact ⟨channelsOk (by decide +kernel), by decide +kernel⟩

/-- R158 to R162: the list goes on, with missing phrases (4, EMPTY, and 5, LOADING) and without; the pass ends and
another follows; the announcement is complete; with a mark it goes back to QUEUED and, as the oldest, plays from the
start, is dropped, or is complete; record 3 then plays. -/
theorem witness_PhrasesFollowEachOther :
    (∀ s ∈ [lastBlock [6, 4, 5, 3] 0 0 0 false [], lastBlock [6] 0 1 0 true [], lastBlock [6, 3] 0 0 2 true []],
      ChannelsOk s ∧ s.link.events.length + 2 < 48 ∧ (channelAt s .a).buffer 1 = .full 1 [1#8] ∧
        phraseAt s 6 = .ready 300 0 ∧ ¬ IsReady s 4 ∧ ¬ IsReady s 5 ∧ IsReady s 3 ∧ s.ann.wanted = false ∧
        (channelAt s .b).st ≠ .idle) := by
  intro s hs
  simp only [List.mem_cons, List.not_mem_nil, or_false] at hs
  rcases hs with rfl | rfl | rfl <;>
    exact ⟨channelsOk (by decide +kernel), by decide +kernel, by decide +kernel, by decide +kernel,
      fun ⟨_, _, h⟩ => absurd h (by rw [show phraseAt _ 4 = Phrase.empty by decide +kernel]; simp),
      fun ⟨_, _, h⟩ => absurd h (by rw [show phraseAt _ 5 = Phrase.loading 4196 4000 by decide +kernel]; simp),
      ⟨5000, 0, by decide +kernel⟩, by decide +kernel, by decide +kernel⟩

theorem test_phrases_follow :
    let ends : List State :=
      [lastBlock [6, 4, 5, 3] 0 0 0 false [1], lastBlock [6, 4] 0 0 0 false [], lastBlock [6] 0 1 0 true [],
        lastBlock [6, 3] 0 0 1 true [], lastBlock [6, 3] 0 0 2 true []].map (after (.blockPlayEnd .a));
    ends.map (fun t => (t.ann.chanA.handle, t.ann.chanA.st, t.ann.chanA.index, t.ann.chanA.granted)) =
      [(some 1, .phrase, 3, some 3), (some 1, .passGap, 2, none), (some 3, .phrase, 0, some 6),
        (some 1, .phrase, 0, some 6), (some 3, .phrase, 0, some 6)] ∧
    ends.map newest =
      [some (.phraseSkipped, some 1, 5), some (.phraseSkipped, some 1, 4), some (.announceDone, some 1, 0),
        some (.directoryLost, none, 1), some (.announceDone, some 1, 2)] ∧
    ends.map (fun t => t.ann.table.map Ann.restarts) = [[0, 0, 0], [0, 0, 0], [0, 0], [2, 0, 0], [0, 0]] := by
  refine ⟨?_, ?_, ?_⟩ <;> decide +kernel

/-- R159: an event at which GENERAL record 3 of zone 0 starts on channel A with a missing first phrase, while a CLOSING
record of zones 0 and 1 waits for zone 1 on channel B: the start is marked and yields at once each time, and after two
restarts it is dropped at that event (log entry 59). -/
theorem test_yield_at_a_skip :
    let s := lastBlock [6] 0 0 0 false [];
    let waiting : State := { s with ann := { s.ann with
      chanA := Channel.idle, routing := (Tab.fill 8 none).put 1 (some .b)
      table := (s.ann.table.drop 1).take 1 ++
        [{ handle := 4, cls := .closing, zones := 3#8, phrases := [6], repeats := 0, restarts := 0, entry := 5 }] } };
    let t := after (.announce 1 1#8 [4, 6] 0) waiting;
    (t.ann.chanA, t.ann.table.map Ann.handle) = (Channel.idle, [2, 4]) ∧ t.ann.chanB.yield = true ∧
      (t.link.events.drop 2).map (fun e => (e.kind, e.detail)) =
        [(.phraseSkipped, 4), (.phraseSkipped, 4), (.phraseSkipped, 4), (.announceDone, 2)] := by decide +kernel

/-! ### The store clock and the closing programme -/

/-- Section 9.9's day: closing time 18:00, the clock at 17:52:30 on weekday 3. -/
def thatDay : State :=
  stepped [(0, ⟨-10, .loopDrain⟩), (5, ⟨0, .landingsLock 7#8⟩)] State.reset

/-- The programme of a day in a state, with the clock at `sec` on the programme day. -/
def evening (st : ProgState) (sec k : Nat) (s : State) : State :=
  programme st k { s with clock := { s.clock with seconds := sec } }

/-- The lowest and the highest slot of a table, by tests over its sixteen slots. -/
theorem lowestSlot {s : State} {k : Nat}
    (h : k < 16 ∧ (s.cfg.steps.get k).isSome = true ∧ ∀ j, j < k → s.cfg.steps.get j = none) : LowestSlot s k := h

theorem highestSlot {s : State} {k : Nat}
    (h : k < 16 ∧ (s.cfg.steps.get k).isSome = true ∧ ∀ j < 16, k < j → s.cfg.steps.get j = none) : HighestSlot s k :=
  ⟨h.1, h.2.1, fun j hk hj => h.2.2 j hj hk⟩

theorem noneDueAbove {s : State} {k P : Nat}
    (h : ∀ j < 16, k < j → (s.cfg.steps.get j).all (fun y => decide ((P : Int) < dueAt s y)) = true) :
    NoneDueAbove s k P := fun j y hk hj hy => by simpa [hy] using h j hj hk

/-- R172, R174: slots 0 and 5 of that day; before, at and after the start, at and past the last due time, the latch. -/
theorem witness_arms :
    LowestSlot thatDay 0 ∧ HighestSlot thatDay 5 ∧ thatDay.cfg.steps.get 0 = some ⟨-10, .loopDrain⟩ ∧
    thatDay.cfg.steps.get 5 = some ⟨0, .landingsLock 7#8⟩ ∧ thatDay.cfg.times.get 3 = some 1080 ∧
    thatDay.cfg.times.get 6 = none ∧ thatDay.fire.latch = false ∧
    [(64199, thatDay), (64200, thatDay), (64800, thatDay), (64801, thatDay), (64200, latched 1#8 thatDay)].map (fun p =>
        let t := after (.setClock 1 p.1 3) p.2
        (t.prog.st, newest t)) =
      [(.armed, some (.directoryLost, none, 1)), (.running, some (.stepSkipped, some 0, 2)),
        (.complete, some (.closingComplete, some 1, 1)), (.complete, some (.closingMissed, none, 1)),
        (.aborted, some (.closingMissed, none, 2))] :=
  ⟨lowestSlot (by decide +kernel), highestSlot (by decide +kernel), by decide +kernel⟩

theorem witness_ClockIsSetAndTicks :
    outcomes State.reset [.setClock 1 86399 6, .setClock 1 86400 6, .setClock 1 0 7] = [.done, .badValue, .badValue] ∧
    thatDay.prog.st = .idle ∧ (evening .armed 0 0 thatDay).prog.st = .armed ∧
    [ProgState.complete, .aborted].map (fun st =>
        let s := evening st 0 0 thatDay
        (s.prog.day, (after (.setClock 1 64199 3) s).prog.st, (after (.setClock 1 64199 4) s).prog.st)) =
      [(some 3, .complete, .armed), (some 3, .aborted, .armed)] ∧
    State.reset.clock.isSet = false ∧ thatDay.clock.isSet = true ∧ thatDay.clock.seconds ≠ 86399 ∧
    (after .secondTick { thatDay with clock := { thatDay.clock with seconds := 86399, weekday := 6 } }).clock.weekday =
      0 ∧
    programmeRuns thatDay = false := by decide +kernel

/-- R173, R174: the tick of an ARMED programme before, at and past its due times, with the latch clear and set. -/
theorem witness_armed_ticks :
    let s (sec : Nat) := evening .armed sec 0 thatDay;
    LowestSlot (s 0) 0 ∧ HighestSlot (s 0) 5 ∧ (s 0).clock.isSet = true ∧
    IsTime (s 64199) (secondsNext (s 64199)) (weekdayNext (s 64199)) 64200 ∧
    [s 64198, s 64199, s 64799, s 64800, latched 1#8 (s 64199)].map (fun u => (after .secondTick u).prog.st) =
      [.armed, .running, .complete, .complete, .aborted] ∧ dueAt (s 0) ⟨-10, .loopDrain⟩ = 64200 :=
  ⟨lowestSlot (by decide +kernel), highestSlot (by decide +kernel), by decide +kernel, by unfold IsTime; decide +kernel,
    by decide +kernel⟩

/-- R181: a midnight while RUNNING with no step due, and while HELD, marks the programme; its end then arms for the
clock's day, and does not where SET CLOCK alone changed the day. -/
theorem test_past_midnight :
    let late (st : ProgState) (a : StepAction) := evening st 86399 5 (stepped [(5, ⟨30, a⟩)] (loopAt .draining 0));
    let run := { late .running (.landingsLock 1#8) with prog := { (late .running (.landingsLock 1#8)).prog with
      reference := 86399 } };
    let held := late .held (.loopStop 20);
    (run.prog.next = some 5 ∧ (86400 : Int) < dueAt run ⟨30, .landingsLock 1#8⟩ ∧
      IsTime run (secondsNext run) (weekdayNext run) 86400) ∧
    held.prog.watch = none ∧ held.loop.st = .draining ∧
    [run, held].map (fun s =>
        let t := after .secondTick s
        (t.prog.pastMidnight, t.prog.day, t.clock.weekday, (after (.closingAbort 1) t).prog.day,
          (after (.closingAbort 1) (after .replySent (after (.setClock 1 0 4) s))).prog.st)) =
      [(true, some 3, 4, some 4, .aborted), (true, some 3, 4, some 4, .aborted)] := by
  unfold IsTime; decide +kernel

/-- R170, R171: times and offsets at their limits, every action, and an order that is broken. -/
theorem witness_ClosingSettingsAreDefined :
    outcomes thatDay
        [.defineClosingTimes 1 [some 600, some 1320, none, none, none, none, none],
          .defineClosingTimes 1 [some 599, none, none, none, none, none, none],
          .defineClosingTimes 1 [none, none, none, none, none, none, some 1321],
          .defineStep 1 15 (some ⟨30, 0, some [3], some 1#8, none, none, none, none, none⟩),
          .defineStep 1 15 (some ⟨30, 1, none, none, some 13, some 1#8, none, none, none⟩),
          .defineStep 1 15 (some ⟨30, 3, none, none, none, none, none, none, none⟩),
          .defineStep 1 15 (some ⟨30, 3, none, none, none, none, none, none, some 60⟩),
          .defineStep 1 15 (some ⟨30, 4, none, none, none, none, some 7, none, some 0⟩),
          .defineStep 1 15 (some ⟨30, 5, none, none, none, none, none, some 1#8, none⟩),
          .defineStep 1 15 (some ⟨-1, 2, none, none, none, none, none, none, none⟩), .defineStep 1 5 none] =
      [.done, .badValue, .badValue, .done, .clamped, .done, .done, .clamped, .done, .badValue, .done] ∧
    programmeRuns thatDay = false ∧ programmeRuns (programme .running 0 thatDay) = true := by decide +kernel

/-- R171: a slot and a value just out of range, an empty set, and a parameter of another action. -/
theorem witness_bad_steps :
    let vs : List StepReq :=
      [⟨-91, 2, none, none, none, none, none, none, none⟩, ⟨31, 2, none, none, none, none, none, none, none⟩,
        ⟨0, 6, none, none, none, none, none, none, none⟩, ⟨0, 0, some [], some 1#8, none, none, none, none, none⟩,
        ⟨0, 0, some (List.replicate 9 3), some 1#8, none, none, none, none, none⟩,
        ⟨0, 0, some [64], some 1#8, none, none, none, none, none⟩, ⟨0, 0, some [3], some 0#8, none, none, none, none, none⟩,
        ⟨0, 1, none, none, some 3, some 0#8, none, none, none⟩, ⟨0, 5, none, none, none, none, none, some 0#8, none⟩,
        ⟨0, 4, none, none, none, none, some 8, none, none⟩, ⟨0, 2, none, none, none, none, none, none, some 20⟩,
        ⟨0, 2, some [3], some 1#8, none, none, none, none, none⟩, ⟨0, 2, none, none, some 1, some 1#8, none, none, none⟩,
        ⟨0, 2, none, none, none, none, some 1, none, none⟩, ⟨0, 2, none, none, none, none, none, some 1#8, none⟩];
    (∀ v ∈ vs, stepOf v = none) ∧
    (vs.map (fun v => outcome thatDay (.defineStep 1 5 (some v)))).all (· == some .badValue) = true ∧
    outcome thatDay (.defineStep 1 16 none) = some .badValue ∧ BadStep ⟨-91, 2, none, none, none, none, none, none, none⟩ :=
  ⟨by decide +kernel, by decide +kernel, by decide +kernel, .inl (by decide)⟩

/-- A day with one LANDINGS_LOCK step. -/
def lockDay : State := stepped [(5, ⟨-90, .landingsLock 7#8⟩)] (loopAt .parked 0)

theorem witness_ClosingRequests :
    (lockDay.fire.latch = false ∧ lockDay.clock.isSet = true ∧ programmeRuns lockDay = false ∧
      definedSlots lockDay = [5] ∧ lockDay.cfg.steps.get 5 = some ⟨-90, .landingsLock 7#8⟩ ∧ lockDay.clock.weekday < 7) ∧
    [latched 1#8 lockDay, State.reset, lockDay, programme .running 5 lockDay].map (fun s => outcome s (.closingStart 1)) =
      [some .fireMode, some .wrongState, some .done, some .wrongState] ∧
    (let s := programme .running 5 { lockDay with clock := { lockDay.clock with seconds := 50000 } };
      outcomes s [.closingDelay 1 1, .closingDelay 1 60, .closingDelay 1 0, .closingDelay 1 61, .closingAbort 1] =
          [.done, .done, .clamped, .clamped, .done] ∧ s.prog.pastMidnight = false) ∧
    outcomes lockDay [.closingDelay 1 5, .closingAbort 1] = [.wrongState, .wrongState] := by decide +kernel

/-- R174, R175, R183: CLOSING START of a day with two steps due at once and a third ten minutes on. -/
theorem witness_closing_start :
    let s := stepped [(0, ⟨-10, .loopDrain⟩), (5, ⟨-10, .landingsLock 7#8⟩), (9, ⟨0, .loopStop 20⟩)] (loopAt .parked 0);
    let t := after (.closingStart 1) s;
    LowestSlot s 0 ∧ HighestSlot s 9 ∧ (s.fire.latch = false ∧ s.clock.isSet = true ∧ programmeRuns s = false) ∧
    (∀ j < 16, (s.cfg.steps.get j).all (fun y => decide (-10 ≤ y.offset)) = true) ∧
    (t.prog.st, t.prog.next, t.prog.reference, [0, 5, 9].map t.prog.results.get) =
      (.running, some 9, 64950, [.skipped (.loopNotRunning .parked), .done (.locked 7#8), .notReached]) :=
  ⟨lowestSlot (by decide +kernel), highestSlot (by decide +kernel), by decide +kernel⟩

/-- R174, R182: CLOSING DELAY of an ARMED programme whose clock was put forward to its last due time: it starts, or waits; of
one that is HELD, and a second delay beyond the hour. -/
theorem witness_closing_delay :
    let s (st : ProgState) (sec : Nat) : State := evening st sec 0 thatDay;
    LowestSlot (s .armed 64500) 0 ∧ IsTime (s .armed 64500) 64500 3 64500 ∧
    [(s .armed 64500, 5), (s .armed 64500, 6), (s .armed 66000, 1), (latched 1#8 (s .armed 64500), 1)].map (fun p =>
        ((after (.closingDelay 1 p.2) p.1).prog.st, (after (.closingDelay 1 p.2) p.1).prog.delay)) =
      [(.running, 5), (.armed, 6), (.complete, 1), (.aborted, 1)] ∧
    (let h := programme .held 5 (stepped [(5, ⟨0, .loopStop 20⟩)] (loopAt .draining 0));
      h.prog.watch = none ∧ (after (.closingDelay 1 61) h).prog = { h.prog with delay := 60 } ∧
        outcome (after .replySent (after (.closingDelay 1 60) h)) (.closingDelay 1 1) = some .clamped) :=
  ⟨lowestSlot (by decide +kernel), by unfold IsTime; decide +kernel, by decide +kernel⟩

/-- A programme whose one step, in slot 5, is due at 64800. -/
def dueDay (st : ProgState) (sec : Nat) (a : StepAction) (s : State) : State := evening st sec 5 (stepped [(5, ⟨0, a⟩)] s)

/-- R175: the slot falls due at a second tick while RUNNING, and at the tick that starts an ARMED programme. -/
theorem fallsDue_at_tick {k P : Nat} {x : ClosingStep} {s : State}
    (h : k < 16 ∧ s.cfg.steps.get k = some x ∧ dueAt s x ≤ P ∧
      (∀ j < 16, k < j → (s.cfg.steps.get j).all (fun y => decide ((P : Int) < dueAt s y)) = true) ∧
      s.clock.isSet = true ∧ s.prog.next = some k ∧ s.prog.pastMidnight = false ∧ s.clock.seconds ≠ 86399)
    (ht : IsTime s (secondsNext s) (weekdayNext s) P)
    (hs : s.prog.st = .running ∨ s.prog.st = .armed ∧ s.fire.latch = false ∧ LowestSlot s k ∧ dueAt s x = P) :
    FallsDue .secondTick k x P s := by
  obtain ⟨hk, hx, hd, hn, hc, hq, hm, hz⟩ := h
  refine ⟨hk, hx, hd, noneDueAbove hn, ?_⟩
  rcases hs with hr | ⟨ha, hl, hw, he⟩
  · exact .inl ⟨rfl, hc, ht, hr, hq, fun _ => ⟨hm, hz⟩⟩
  · exact .inr (.inl ⟨rfl, hc, ht, hz, ha, hl, hw, fun _ => ⟨he, hm⟩⟩)

/-- Each action of section 9.4, due at a tick while RUNNING and at the start. -/
theorem witness_steps_fall_due :
    ∀ a ∈ [StepAction.announce [3] 1#8, .strokes 3 0xFF#8, .loopDrain, .loopStop 20, .shuttersClose 1 20, .landingsLock 7#8],
      ∀ st ∈ [ProgState.running, .armed],
        FallsDue .secondTick 5 ⟨0, a⟩ 64800 (dueDay st 64799 a (shutters (phrased (loopAt .running 0)))) := by
  intro a ha st hst
  simp only [List.mem_cons, List.not_mem_nil, or_false] at ha hst
  rcases ha with rfl | rfl | rfl | rfl | rfl | rfl <;> rcases hst with rfl | rfl <;>
    refine fallsDue_at_tick (by decide +kernel) (by unfold IsTime; decide +kernel) ?_
  all_goals first
    | exact .inl (by decide +kernel)
    | exact .inr ⟨by decide +kernel, by decide +kernel, lowestSlot (by decide +kernel), by decide +kernel⟩

/-- R180: a forward jump of SET CLOCK to the due time, and on the day after the programme day with a step above it. -/
theorem witness_jump_falls_due :
    FallsDue (.setClock 1 64800 3) 5 ⟨0, .loopDrain⟩ 64800 (dueDay .running 64000 .loopDrain State.reset) :=
  ⟨by decide, by decide +kernel, by decide +kernel, noneDueAbove (by decide +kernel),
    .inr (.inr ⟨1, 64800, 3, 64000, rfl, by decide +kernel, by decide, by decide, by decide +kernel, by decide +kernel,
      by unfold IsTime; decide +kernel, by unfold IsTime; decide +kernel, by decide, fun _ => by decide +kernel⟩)⟩

/-- R175: 120 s past its due time a step is begun, and 121 s past it an ANNOUNCE or STROKES step is stale. -/
theorem witness_stale :
    let s (sec : Nat) (a : StepAction) := dueDay .running sec a (phrased State.reset);
    FallsDue .secondTick 5 ⟨0, .announce [3] 1#8⟩ 64921 (s 64920 (.announce [3] 1#8)) ∧
    FallsDue .secondTick 5 ⟨0, .strokes 3 1#8⟩ 64921 (s 64920 (.strokes 3 1#8)) ∧
    [s 64919 (.announce [3] 1#8), s 64920 (.announce [3] 1#8), s 64920 (.strokes 3 1#8), s 64920 .loopDrain].map (fun u =>
        (after .secondTick u).prog.results.get 5) =
      [.done (.announced 1), .skipped .stale, .skipped .stale, .skipped (.loopNotRunning .unconfigured)] :=
  ⟨fallsDue_at_tick (by decide +kernel) (by unfold IsTime; decide +kernel) (.inl (by decide +kernel)),
    fallsDue_at_tick (by decide +kernel) (by unfold IsTime; decide +kernel) (.inl (by decide +kernel)), by decide +kernel⟩

/-- R157, R176: an ANNOUNCE step with room, with a full table that holds QUEUED GENERAL records and with one that holds
none, and under the latch. -/
theorem test_announce_steps :
    let a : StepAction := .announce [3] 1#8;
    let full (c : AnnClass) : State := { fullTable with ann := { fullTable.ann with
      table := fullTable.ann.table.map (fun r => { r with cls := c }) } };
    [phrased State.reset, full .general, full .closing, latched 1#8 (phrased State.reset)].map (fun u =>
        (after .secondTick (dueDay .running 64799 a u)).prog.results.get 5) =
      [.done (.announced 1), .done (.announced 12), .skipped (.announceRefused false), .skipped (.announceRefused true)] := by
  decide +kernel

/-- The announcer with record 1 on channel A and record 2 on channel B, and nothing that waits; A in its gap or in a
phrase. -/
def bothPlay (gap : Bool) (r : Nat) : State :=
  let s := lastBlock [6] 0 0 r false []
  { s with ann := { s.ann with
    table := s.ann.table.take 2
    chanA := if gap then { Channel.idle with st := .passGap, handle := some 1, phrases := [6], gap := some 900 }
      else s.ann.chanA } }

/-- A record on channel B only. -/
def onePlays : State :=
  let s := bothPlay false 0
  { s with ann := { s.ann with
    table := s.ann.table.drop 1, chanA := Channel.idle, routing := (Tab.fill 8 none).put 1 (some .b) } }

/-- R158, R159: the step announces on zone `z` with both channels in a phrase, with A in its gap, and with A IDLE. -/
theorem witness_ClosingCandidatesStartOrMark :
    ∀ zs ∈ [1#8, 2#8, 4#8], ∀ u ∈ [bothPlay false 0, bothPlay true 0, bothPlay true 2, onePlays],
      let s := dueDay .running 64799 (.announce [3] zs) u;
      FallsDue .secondTick 5 ⟨0, .announce [3] zs⟩ 64800 s ∧ ChannelsOk s ∧ s.fire.latch = false ∧ s.ann.wanted = false ∧
        s.ann.table.length < 12 ∧
        (∀ r ∈ s.ann.table, s.ann.chanA.handle = some r.handle ∨ s.ann.chanB.handle = some r.handle) ∧ IsReady s 3 := by
  intro zs hz u hu
  simp only [List.mem_cons, List.not_mem_nil, or_false] at hz hu
  rcases hz with rfl | rfl | rfl <;> rcases hu with rfl | rfl | rfl | rfl <;>
    exact ⟨fallsDue_at_tick (by decide +kernel) (by unfold IsTime; decide +kernel) (.inl (by decide +kernel)),
      channelsOk (by decide +kernel), by decide +kernel, by decide +kernel, by decide +kernel, by decide +kernel,
      ⟨5000, 0, by decide +kernel⟩⟩

/-- R159: a zone of A, of B and of neither: the marks of both channels, and the channel on which the announcement
starts. -/
theorem test_closing_marks :
    [(1#8, bothPlay false 0), (2#8, bothPlay false 0), (4#8, bothPlay false 0), (1#8, bothPlay true 0),
        (1#8, bothPlay true 2), (1#8, onePlays), (2#8, onePlays)].map (fun p =>
        let t := (after .secondTick (dueDay .running 64799 (.announce [3] p.1) p.2)).ann
        (t.chanA.yield, t.chanB.yield, t.chanA.handle, t.table.map Ann.restarts)) =
      [(true, false, some 1, [0, 0, 0]), (false, true, some 1, [0, 0, 0]), (false, true, some 1, [0, 0, 0]),
        (false, false, some 4, [1, 0, 0]), (false, false, some 4, [0, 0]), (false, false, some 4, [0, 0]),
        (false, true, none, [0, 0])] := by decide +kernel

/-- R156, R158, R164, R165: an ANNOUNCE with both channels busy, with a zone held and with none; ANNOUNCE CANCEL of a record
that plays with and without one that waits; and of an evacuation. -/
theorem test_announce_and_cancel :
    (∀ s ∈ [bothPlay false 0, onePlays, onAir, lastBlock [6] 0 0 0 false []], ChannelsOk s ∧ s.ann.wanted = false) ∧
    [(bothPlay false 0, 4#8), (onePlays, 2#8), (onePlays, 1#8)].map (fun p =>
        let t := after (.announce 1 p.2 [3] 0) p.1
        (t.link.reply.map Reply.payload, t.ann.chanA.handle, t.ann.routing.get 0, phraseAt t 3)) =
      [(some [4#8, 0#8, 0xFF#8], some 1, some .a, .ready 5000 0), (some [4#8, 0#8, 0xFF#8], none, none, .ready 5000 0),
        (some [4#8, 0#8, 0#8], some 4, some .a, .ready 5000 1)] ∧
    CannotStart (bothPlay false 0) 4#8 ∧ CannotStart onePlays 2#8 ∧ ¬ CannotStart onePlays 1#8 ∧
    [after (.announceCancel 1 1) onAir, after (.announceCancel 1 1) (lastBlock [6] 0 0 0 false []),
        after (.announceCancel 1 0) (underFire true)].map (fun t =>
        (t.ann.chanA.handle, t.ann.routing.get 0, t.ann.routing.get 2, t.ann.table.map Ann.handle)) =
      [(none, none, none, []), (some 3, none, some .a, [2, 3]), (none, none, none, [])] := by
  refine ⟨fun s hs => ?_, by decide +kernel, ?_⟩
  · simp only [List.mem_cons, List.not_mem_nil, or_false] at hs
    rcases hs with rfl | rfl | rfl | rfl <;> exact ⟨channelsOk (by decide +kernel), by decide +kernel⟩
  · unfold CannotStart; decide +kernel

/-- An evacuation is defined whose first phrase is missing; what plays is stopped at the latch. -/
def evacuating (s : State) : State := { s with cfg := { s.cfg with evac := some [4, 3] } }

/-- R166: nothing plays, and records play on both channels; the evacuation is defined. -/
theorem witness_EvacuationStarts :
    ∀ s ∈ [evacuating (phrased (near 0)),
        { evacuating (near 0) with phrases := (bothPlay true 0).phrases, ann := (bothPlay true 0).ann }],
      ConfirmsAlarm 432 0 s ∧ ChannelsOk s ∧ s.ann.chanA.handle ≠ some 0 ∧ s.ann.chanB.handle ≠ some 0 ∧
        (∀ k < 8, ∀ ch, s.ann.routing.get k = some ch → (channelAt s ch).st ≠ .idle) ∧
        s.cfg.evac = some ([4] ++ 3 :: []) ∧ (∀ q ∈ [4], ¬ IsReady s q) ∧ IsReady s 3 := by
  intro s hs
  simp only [List.mem_cons, List.not_mem_nil, or_false] at hs
  rcases hs with rfl | rfl <;>
    exact ⟨by unfold ConfirmsAlarm; decide +kernel, channelsOk (by decide +kernel), by decide +kernel, by decide +kernel,
      fun k hk => by
        intro ch
        cases ch <;> revert k <;> decide +kernel,
      by decide +kernel,
      fun q hq ⟨_, _, h⟩ => by
        simp only [List.mem_cons, List.not_mem_nil, or_false] at hq
        subst hq
        exact absurd h (by rw [show phraseAt _ 4 = Phrase.empty by decide +kernel]; simp),
      ⟨5000, 0, by decide +kernel⟩⟩

/-- A further alarm of zone 0, after one of zone 2; line 2 is SILENCED. -/
def further : State := latched 4#8 (line { Line.rest with st := .silenced } (evacuating (phrased (near 0))))

/-- R63, R90, R135, R166: a further alarm with nothing that plays, and with the evacuation on channel A. -/
theorem witness_FurtherAlarmsReachTheReaders :
    (ConfirmsAlarm 432 0 further ∧ further.fire.latch = true ∧ further.prog.st ≠ .held ∧ Meets 0 further (aShutter .divider none)) ∧
    (further.ann.table = [] ∧ further.ann.chanA = Channel.idle ∧ further.ann.chanB = Channel.idle ∧
      further.ann.routing = Tab.fill 8 none) ∧
    (let s := zoneRun 1 (some (.alarm, 2)) (zone 1 .normal (after (.conversionComplete 432) further));
      ConfirmsAlarm 432 1 s ∧ s.ann.table = [] ∧ s.ann.chanA.handle = some 0 ∧ s.fire.latch = true) := by
  unfold ConfirmsAlarm Meets
  refine ⟨?_, ?_, ?_⟩ <;> decide +kernel

theorem test_further_alarm :
    (let t := after (.conversionComplete 432) further;
      (t.fire.alarmed, (lineAt t 2).st, (lineAt t 2).striker, (lineAt t 3).st) = (5#8, .fireRinging, some 82, .idle) ∧
        (t.ann.chanA.handle, t.ann.chanA.granted, t.ann.chanA.index, t.ann.routing.get 7) = (some 0, some 3, 1, some .a) ∧
        ((demandOf t 9).map Demand.cls, (demandOf t 4).map Demand.cls) = (some .fire, some .fire) ∧
        t.loop = further.loop) ∧
    (after (.conversionComplete 432) (latched 4#8 (evacuating (phrased (near 1))))).ann.chanA.handle = some 0 := by
  refine ⟨?_, ?_⟩ <;> decide +kernel

/-- R130, R176: STROKES on an idle line, in a call, in its group gap, in strokes, in GAP and under fire ringing. -/
theorem test_strokes_steps :
    [Line.rest, sounding 0 0 true, sounding 0 1 false, { Line.rest with st := .strokes, left := 2 },
        { Line.rest with st := .gap }, { Line.rest with st := .fireRinging }].map (fun x =>
        (after .secondTick (dueDay .running 64799 (.strokes 3 4#8) (line x belled))).prog.results.get 5) =
      [.taken, .pending, .taken, .pending, .taken, .discarded].map (fun r => .done (.strokes [(2, r)])) := by
  decide +kernel

/-- R176, R177: LOOP_DRAIN and LOOP_STOP on loops in several states. -/
theorem test_loop_steps :
    [LoopState.running, .draining, .parked, .faultStop, .stoppedFoul].map (fun st =>
        let u := oneAboard (loopAt st 0)
        ((after .secondTick (dueDay .running 64799 .loopDrain u)).prog.results.get 5,
          (after .secondTick (dueDay .running 64799 (.loopStop 20) u)).prog.results.get 5)) =
      [(.done .drained, .notReached), (.skipped (.loopNotRunning .draining), .notReached),
        (.skipped (.loopNotRunning .parked), .done (.loopAt .parked)),
        (.skipped (.loopNotRunning .faultStop), .skipped (.loopNotStopped .faultStop)),
        (.skipped (.loopNotRunning .stoppedFoul), .notReached)] := by decide +kernel

/-- Shutter 4 is OPEN and shutter 9 CLOSED, both of group 1, and the step of that evening closes group `g`. -/
def closingGroup (g : Nat) : State :=
  let u := shutters (loopAt .parked 0)
  dueDay .running 64799 (.shuttersClose g 20)
    { u with shutters := u.shutters.put 9 { Shutter.idle with motion := .closed } }

/-- R178: a group of one CLOSED shutter and one OPEN one, and an empty group. -/
theorem witness_shutter_steps :
    FallsDue .secondTick 5 ⟨0, .shuttersClose 1 20⟩ 64800 (closingGroup 1) ∧
    (∀ i d, demandOf (closingGroup 1) i = some d → d.status = .paused → d.cls = .fire) ∧
    (after .secondTick (closingGroup 1)).prog.watch =
      some { shutters := [(4, .pending)], satisfied := [9], refused := [] } ∧
    (after .secondTick (closingGroup 2)).prog.results.get 5 = .done (.shutters [] [] [] []) := by
  refine ⟨fallsDue_at_tick (by decide +kernel) (by unfold IsTime; decide +kernel) (.inl (by decide +kernel)),
    fun i d h => absurd h ?_, by decide +kernel⟩
  have idle : ∀ i < 24, demandOf (closingGroup 1) i = none := by decide +kernel
  by_cases hi : i < 24
  · simp [idle i hi]
  · have h24 : (closingGroup 1).shutters.items.length ≤ i := by simpa [Tab.size] using Nat.not_lt.mp hi
    simp [demandOf, shutterAt, List.getElem?_eq_none h24, Shutter.idle]

/-- R180: SET CLOCK in RUNNING and HELD: another day, back, forward with nothing due, past the last due time. -/
theorem witness_clock_changes :
    let run := dueDay .running 64000 .loopDrain (loopAt .draining 0);
    let held := dueDay .held 64000 (.loopStop 20) (loopAt .draining 0);
    let watched : State := { held with prog := { held.prog with
      watch := some { shutters := [(4, .pending)], satisfied := [], refused := [] } } };
    let waits := watched |> shutters |> demanding 4 .lowering .close .closing .moving id;
    IsTime run 64000 3 64000 ∧ IsTime run 100 4 86500 ∧ HighestSlot run 5 ∧
    [(run, 5, 0), (run, 3, 63000), (run, 3, 64799), (run, 3, 64801), (run, 4, 0), (held, 5, 0), (held, 3, 70000),
        (waits, 4, 9)].map (fun p => (after (.setClock 1 p.2.2 p.2.1) p.1).prog.st) =
      [.armed, .running, .running, .complete, .complete, .armed, .held, .held] ∧ run.prog.day = some 3 ∧
    (shutterAt waits 4).motion ≠ .closed ∧ (shutterAt waits 4).fault = none ∧ (demandOf waits 4).isSome = true :=
  ⟨by unfold IsTime; decide +kernel, by unfold IsTime; decide +kernel, highestSlot (by decide +kernel), by decide +kernel⟩

/-- R175: one tick of the late start of section 9.10 begins four slots, of which three are stale. -/
theorem test_one_pass :
    let s := evening .running 64349 0 (stepped
      [(0, ⟨-30, .announce [40] 0xFF#8⟩), (1, ⟨-15, .announce [41, 42] 0xFF#8⟩), (2, ⟨-10, .strokes 3 0xFF#8⟩),
        (3, ⟨-10, .loopDrain⟩), (4, ⟨0, .strokes 6 0xFF#8⟩)] (unref .unreferenced));
    let t := after .secondTick s;
    (s.prog.next = some 0 ∧ IsTime s (secondsNext s) (weekdayNext s) 64350) ∧ t.prog.st = .running ∧ t.prog.next = some 4 ∧
    (List.range 5).map t.prog.results.get =
      [.skipped .stale, .skipped .stale, .skipped .stale, .skipped (.loopNotRunning .unreferenced), .notReached] := by
  unfold IsTime; decide +kernel

/-- R184: no midnight taken, RUNNING and HELD, and no programme. -/
theorem witness_ClosingAbortEndsTheProgramme :
    programmeRuns lockDay = false ∧
    ∀ st ∈ [ProgState.running, .held], programmeRuns (programme st 5 lockDay) = true ∧
      (programme st 5 lockDay).prog.pastMidnight = false := by decide +kernel

/-- R175, R179: the last step, a LOOP_STOP that waits, and a SHUTTERS_CLOSE with a watch. -/
def heldLoop : State :=
  programme .held 5 (stepped [(5, ⟨0, .loopStop 20⟩)] (loopAt .draining 0))

def heldShutters : State :=
  let s := programme .held 5 (stepped [(5, ⟨0, .shuttersClose 1 20⟩)] (shutters State.reset))
  { s with prog := { s.prog with
    watch := some { shutters := [(4, .pending), (9, .ended true)], satisfied := [], refused := [] } } }

theorem witness_HoldTimerEndsTheStep :
    ∀ s ∈ [heldLoop, heldShutters],
      s.prog.st = .held ∧ s.prog.hold = some 5000 ∧ s.prog.next = some 5 ∧ (s.cfg.steps.get 5).isSome = true ∧
        (∀ j < 16, 5 < j → s.cfg.steps.get j = none) ∧ s.prog.pastMidnight = false := by decide +kernel

/-- R179: the clock of those states gives a programme time, and no slot stands above slot 5. -/
theorem witness_hold_ends :
    ∀ s ∈ [heldLoop, heldShutters], IsTime s s.clock.seconds s.clock.weekday 64350 ∧ NoneDueAbove s 5 64350 := by
  intro s h
  simp only [List.mem_cons, List.not_mem_nil, or_false] at h
  rcases h with rfl | rfl <;> exact ⟨by unfold IsTime; decide +kernel, noneDueAbove (by decide +kernel)⟩

/-- R177 to R179: the loop parks at the end of the window, and the last watched shutter arrives; the fault of another
ends its watch too, and a loop that goes on braking leaves the step HELD. -/
theorem test_owner_ends_hold :
    let parks := dueDay .held 64350 (.loopStop 20) (withLoop (fun x => { x with
      standstill := false, window := some 500 }) (loopAt .braking 0));
    let cmd : Instr := .checkSettingEnd 1 false false;
    let shorts := { heldShutters with prog := heldShutters.prog } |> demanding 4 .open .close .closing .checking id |>
      bridge 1 (.checking .preTravel [(false, false), (false, false)] 30) (some 4);
    ownerEvent .standstillTimer = true ∧ ownerEvent cmd = true ∧ heldShutters.prog.watch.isSome = true ∧
    (after .pitchPulse parks).prog.st = .held ∧
    (after cmd shorts).prog.results.get 5 = .done (.shutters [4, 9] [] [] [9]) := by decide +kernel

/-- R179: what the result record keeps. -/
theorem test_hold_timer :
    ((after .holdTimer heldLoop).prog.results.get 5, newest (after .holdTimer heldLoop)) =
      (.timedOut (.loopAt .draining), some (.closingComplete, some 1, 0)) ∧
    (after .holdTimer heldShutters).prog.results.get 5 = .timedOut (.pendingShutters [4]) := by decide +kernel

/-! ### The field scan -/

/-- A field that is lost, and one that two bad scans in a row bring near to it, with a drive under way. -/
def lostField : State := { State.reset with field := { State.reset.field with lost := true, losses := 7 } }

def badField : State :=
  let s := driving true 0 0 3
  { s with
    cfg := { s.cfg with geom := three 30 }, loop := (loopAt .running 0).loop
    field := { s.field with mismatches := 2 } }

theorem witness_ScansAcceptLoseAndReturn :
    State.reset.field.lost = false ∧ State.reset.field.mismatches ≤ 1 ∧ lostField.field.lost = true ∧
    (badField.field.lost = false ∧ 2 ≤ badField.field.mismatches ∧ badField.loop.st ≠ .faultStop ∧
      badField.loop.st ≠ .unconfigured ∧ (bridgeAt badField 3).shutter = some 9 ∧ bridgeOf badField 9 = some 3) := by
  decide +kernel

/-- R21, section 11.3: the lamps of an opening with and without its landing locked out; the selectors at both ends of the two
banks; the lamps of the stations at both ends, PENDING, in a flash and in its dark half. -/
theorem test_outputs :
    (let s := after (.landingLockout 1 (.one 1) 1) (loopAt .running 0);
      [0, 1, 2, 3, 4, 5, 6].map (fun p => (outputs s).getLsbD p) = [true, true, false, false, true, true, false]) ∧
    [(0, 3, [16, 32, 48]), (15, 2, [31, 47, 63]), (16, 1, [64, 72, 80]), (23, 0, [71, 79, 87])].map (fun x =>
        x.2.2.map (fun p => (outputs (bridge x.2.1 (.dwell none true true) (some x.1) State.reset)).getLsbD p)) =
      [[true, true, true], [true, false, true], [true, true, false], [true, false, false]] ∧
    (let lamp (n : Nat) (x : Lamp) (now : Nat) : Bool :=
        (outputs { State.reset with
          bells := { State.reset.bells with lamps := State.reset.bells.lamps.put n x }
          time := { State.reset.time with now } }).getLsbD (144 + n);
      [lamp 0 { steady := .pending, flash := none } 500, lamp 47 { steady := .unanswered, flash := none } 499,
          lamp 47 { steady := .unanswered, flash := none } 500, lamp 0 { steady := .off, flash := some 900 } 124,
          lamp 0 { steady := .pending, flash := some 900 } 125] = [true, true, false, true, false]) := by decide +kernel

/-- R205, R206: acceptance at the second of two scans that read alike; the third bad scan; the first good one. -/
theorem test_scans :
    (let s := after (.scanEvent 1 0x5A3C) State.reset;
      (acceptedAt s 0, acceptedAt (after (.scanEvent 1 0x5A3C) s) 0, acceptedAt (after (.scanEvent 0 0x5A3C) s) 0) =
        (none, some true, none)) ∧
    (after (.scanEvent 0 0) badField).loop.fault = some { cause := .fieldLost, subject := none } ∧
    newest (after (.scanEvent 0 0x5A3C) lostField) = some (.fieldRestored, none, 7) := by decide +kernel

/-- The inputs of the list change their accepted values to those given at the next scan, which reads `seen`. -/
def turned (ps : List (Nat × Bool)) (s : State) : State :=
  { s with
    field := { s.field with
      inputs := ps.foldl (fun t p => t.put p.1 { accepted := some (!p.2), raw := some p.2, awaiting := false })
        s.field.inputs } }

def seen (ps : List (Nat × Bool)) : BitVec 256 :=
  ps.foldl (fun v p => if p.2 then v ||| BitVec.shiftLeft 1#256 p.1 else v) 0#256

/-- The state after the good scan at which the inputs of the list change. -/
def scanned (ps : List (Nat × Bool)) (s : State) : State := after (.scanEvent (seen ps) 0x5A3C#16) (turned ps s)

/-- The watch of opening 4 is ARMED; its entry phase is 42. -/
def armedWatch (st : LoopState) (c : Nat) : State :=
  withLoop (fun x => { x with watches := x.watches.put 4 .armed }) (loopAt st c)

/-- Opening 2 with its recogniser in a state and the other beam, `q`, accepted CLEAR. -/
def curtain (r : Recogniser) (q : Nat) (s : State) : State :=
  input q false (withLoop (fun x => { x with recognisers := x.recognisers.put 2 r }) s)

/-- The first three changes of an ENTER and of an EXIT. -/
def entering (snap : Snapshot) : Recogniser := .recording [⟨false, true⟩, ⟨true, true⟩, ⟨false, false⟩] snap

def leaving (snap : Snapshot) : Recogniser := .recording [⟨true, true⟩, ⟨false, true⟩, ⟨true, false⟩] snap

theorem witness_scan_of_the_loop :
    (∀ x ∈ [(loopAt .running 0, 48), (loopAt .parked 0, 50), (loopAt .creeping 0, 56), (State.reset, 57)],
      AcceptsOnly (seen [(x.2, true)]) (turned [(x.2, true)] x.1) [x.2] ∧
        Accepts (seen [(x.2, true)]) (turned [(x.2, true)] x.1) x.2) ∧
    (∀ s ∈ [armedWatch .running 2092, armedWatch .parked 2092, armedWatch .running 2099, unref .starting],
      AcceptsOnly (seen [(4, true)]) (turned [(4, true)] s) [sillPoint 4] ∧
        Turns (seen [(4, true)]) (turned [(4, true)] s) (sillPoint 4) true ∧
        (4, { sill := 2120, below := 30, above := 30 }) ∈ s.cfg.geom.watched) ∧
    (∀ x ∈ [(entering (.car 0), 34, 18), (entering .noCar, 34, 18), (entering .unreferenced, 34, 18),
        (leaving (.car 0), 18, 34), (.waitClear, 18, 34), (.rest, 34, 18)], ∀ b ∈ [false, true],
      let s := turned [(x.2.1, b)] (curtain x.1 x.2.2 (loopAt .draining 1196));
      AcceptsOnly (seen [(x.2.1, b)]) s [x.2.1] ∧ Turns (seen [(x.2.1, b)]) s x.2.1 b ∧
        (s.field.inputs.get x.2.2).accepted = some false ∧ (s.field.inputs.get x.2.2).awaiting = false ∧
        s.loop.recognisers.get 2 = x.1 ∧ s.loop.cars[0]? = some (.count 0)) := by
  unfold AcceptsOnly Accepts Turns
  refine ⟨?_, ?_, ?_⟩ <;> decide +kernel

/-- Worked cases of sections 1.4 and 1.5: U2's edge at phase 44, the crossings at U1, and a stop button. -/
theorem test_scan_of_the_loop :
    (scanned [(4, true)] (armedWatch .running 2092)).loop.watches.get 4 = .met ∧
    newest (scanned [(4, true)] (armedWatch .parked 2092)) = some (.loopFault, some 4, 7) ∧
    (scanned [(34, false)] (curtain (entering (.car 0)) 18 (loopAt .running 1196))).loop.cars[0]? = some (.count 1) ∧
    newest (scanned [(34, false)] (curtain (entering .noCar) 18 (loopAt .running 1241))) = some (.loopFault, some 2, 8) ∧
    newest (scanned [(18, false)] (curtain (leaving .unreferenced) 34 (unref .unreferenced))) =
      some (.crossingUnattributed, some 2, 2) ∧
    newest (scanned [(50, true)] (loopAt .running 0)) = some (.loopFault, some 2, 9) := by decide +kernel

/-- The DIVIDER with its limits accepted, not driven and driven. -/
def limits (top bottom : Bool) (s : State) : State := input 73 top (input 89 bottom s)

theorem witness_scan_of_the_shutters :
    (∀ x ∈ [(limits true false (shutters State.reset), 73, false), (limits true false (shutters State.reset), 89, true),
        (limits false false (driving true 0 0 3), 73, true), (limits false false (driving false 0 0 3), 89, true),
        (limits true false (driving false 0 0 3), 73, false), (limits true false (driving true 0 0 3), 89, true),
        (limits false false (driving true 0 0 3), 89, true), (shutters State.reset, 105, true),
        (driving false 0 0 3, 105, true)],
      let s := turned [x.2] x.1;
      AcceptsOnly (seen [x.2]) s [x.2.1] ∧ Turns (seen [x.2]) s x.2.1 x.2.2) ∧
    (topLimitPoint 9 = 73 ∧ bottomLimitPoint 9 = 89 ∧ edgePoint 9 = 105) ∧
    (let s := turned [(73, false)] (limits true false (shutters State.reset));
      acceptedAfter (seen [(73, false)]) s 73 = some false ∧ acceptedAfter (seen [(73, false)]) s 89 = some false ∧
        (shutterAt s 9).motion = .open) ∧
    (let s := driving true 0 0 3;
      (demandOf s 9).map Demand.status = some .moving ∧ bridgeOf s 9 = some 3 ∧ (shutterAt s 9).motion = .raising) := by
  unfold AcceptsOnly Accepts Turns acceptedAfter; decide +kernel

/-- R72, R81, R82, R84, R87: a limit lost, an arrival, both limits, and an obstruction. -/
theorem test_scan_of_the_shutters :
    newest (scanned [(73, false)] (limits true false (shutters State.reset))) = some (.shutterFault, some 9, 8) ∧
    newest (scanned [(73, true)] (limits false false (driving true 0 0 3))) = some (.shutterOpened, some 9, 2) ∧
    newest (scanned [(89, true)] (limits false false (driving true 0 0 3))) = some (.directoryLost, none, 1) ∧
    newest (scanned [(73, true), (89, true)] (driving true 0 0 3)) = some (.shutterFault, some 9, 9) ∧
    newest (scanned [(105, true)] (driving false 0 0 3)) = some (.shutterObstructed, some 9, 256) ∧
    newest (scanned [(105, true)] (driving true 0 0 3)) = some (.directoryLost, none, 1) := by decide +kernel

theorem witness_scan_of_the_stations :
    (∀ s ∈ [belled, busyLine 8, latched 1#8 belled], ∀ p ∈ [154, 202], ∀ b ∈ [true, false],
      AcceptsOnly (seen [(p, b)]) (turned [(p, b)] s) [p] ∧ Turns (seen [(p, b)]) (turned [(p, b)] s) p b ∧
        s.cfg.stations.get 10 = some { line := 2, code := 4 } ∧ (s.cfg.codes.get 4).isSome = true) := by
  unfold AcceptsOnly Accepts Turns; decide +kernel

/-- R119, R121, R127: a press creates a call with the lamp PENDING or is refused with a flash, and an attend removes it.
-/
theorem test_scan_of_the_stations :
    (let s := scanned [(154, true)] belled;
      ((s.bells.lamps.get 10).steady, (lineAt s 2).queue.map Call.origin) = (.pending, [.station 10])) ∧
    (scanned [(154, true)] (latched 1#8 belled)).bells.lamps.get 10 = { steady := .off, flash := some 3004 } ∧
    newest (scanned [(155, true)] (busyLine 8)) = some (.callRefused, some 2, 11 + 256 * 7) ∧
    (let s := scanned [(202, true)] (line (sounding 0 0 true) belled);
      ((lineAt s 2).queue.length, (lineAt s 2).st, (lineAt s 2).striker) = (0, .gap, some 80)) := by decide +kernel

/-! ### What every step keeps -/

/-- States that are not the reset state meet the eight conditions, and a step from each comes to a next state; in one of
them a shutter waits. -/
theorem witness_EveryStepKeeps :
    StoreOk (loopAt .running 0) ∧ SettingsOk (loopAt .running 0) ∧ QueuesOk (loopAt .running 0) ∧
    ChannelsOk (bothPlay true 0) ∧ (∃ t, step (bothPlay true 0) = .next t) ∧
    PagesOk (phrased State.reset) ∧ (∃ t, step (phrased State.reset) = .next t) ∧
    (GrantsOk (noBridge (queued .host)) ∧ Waiting none (noBridge (queued .host)) 9) ∧
    (∃ t, step (noBridge (queued .host)) = .next t) ∧
    FireOk (loopAt .running 0) ∧ LoopOk (loopAt .running 0) ∧ ∃ t, step (loopAt .running 0) = .next t := by
  refine ⟨?_, ?_, ?_, channelsOk (by decide +kernel), ⟨_, rfl⟩, witness_DirectoryLoadsBack _ (by simp), ⟨_, rfl⟩,
    ⟨fun _ _ _ _ _ b hb => ?_, waiting (by decide) (by decide +kernel) (by decide +kernel)⟩, ⟨_, rfl⟩, ?_, ?_, _, rfl⟩
  · unfold StoreOk; decide +kernel
  · unfold SettingsOk; decide +kernel
  · unfold QueuesOk; decide +kernel
  · have h : (bridgeAt (noBridge (queued .host)) b).st = .outOfService := by revert b; decide +kernel
    simp [h]
  · unfold FireOk; decide +kernel
  · unfold LoopOk; decide +kernel

end Sys2Proof.Tests
end

section
/-! The loop drain: how a request that is answered at once runs, what the entry to DRAINING leaves in the loop record, and
LOOP DRAIN from each loop state (sections 2.6, 10.3). -/

namespace Sys2Proof.Proofs

open Sys2Proof.Machine Sys2Proof.Safety Sys2Proof.Laws

variable {s v : State} {own : Owner} {k tag : Byte} {o : ReqOutcome} {y : List Byte}

/-! ### A request that is answered at once (R191, R192) -/

@[simp] theorem closeFramer_loop : (closeFramer s).loop = s.loop := rfl

/-- R191, R192: with the framer open the owner works on the state with the framer CLOSED, and its answer is composed. -/
theorem request_answered (hopen : s.link.closed = false) (hown : own (closeFramer s) = (v, .now o y)) :
    request k tag own s = compose k tag o (summary v) y v := by
  simp [request, hopen, hown, respond]

/-- An owner that leaves the line alone has its reply composed with the framer CLOSED. -/
theorem request_replied {ps : List Safety.Part} (hopen : s.link.closed = false) (hown : own (closeFramer s) = (v, .now o y))
    (hframe : OnlyChanges ps (closeFramer s) v) (hline : Part.line ∉ ps) :
    Replied k tag o y (request k tag own s) := by
  obtain ⟨hclosed, hkept, -⟩ := (hframe .line).resolve_left hline
  rw [request_answered hopen hown]
  exact ⟨hclosed, hkept, rfl, _, rfl⟩

/-- The loop record after a request is the one its owner leaves. -/
theorem request_loop (hopen : s.link.closed = false) (hown : own (closeFramer s) = (v, .now o y)) :
    (request k tag own s).loop = v.loop := by
  rw [request_answered hopen hown]; rfl

/-- A command that is a request whose owner only answers changes nothing but the line. -/
theorem request_only_answers (hopen : s.link.closed = false)
    (hown : own (closeFramer (stamp s)) = (closeFramer (stamp s), .now o y)) :
    Replied k tag o y (request k tag own (stamp s)) ∧ OnlyChanges [.line] s (request k tag own (stamp s)) := by
  refine ⟨request_replied (ps := []) hopen hown (OnlyChanges.refl _ _) (by decide), ?_⟩
  rw [request_answered (s := stamp s) hopen hown]
  simp

/-! ### The entry to DRAINING (R39, R41) -/

/-- R41: where no stop is pending, the empty test of a drain not yet complete sets the drained flag, and stops the timeout,
when every car is at 0. -/
theorem checkEmpty_loop {d : Drain} (hst : s.loop.st = .draining) (hdrain : s.loop.drain = some d)
    (hdrained : d.drained = false) (hstop : d.stopPending = false) :
    (checkEmpty s).loop =
      { s.loop with
        drain := some { d with drained := allEmpty s }
        drainTimer := if allEmpty s then none else s.loop.drainTimer } := by
  cases hempty : allEmpty s with
  | false =>
    have hsame : checkEmpty s = s := by simp [checkEmpty, hst, hdrain, hdrained, hempty]
    have hkept : some { d with drained := false } = s.loop.drain := by rw [hdrain, ← hdrained]
    rw [hsame, hkept]
    rfl
  | true => simp [checkEmpty, completeDrain, hst, hdrain, hdrained, hstop, hempty]

/-- R39: the loop record after the entry to DRAINING with stop pending clear. -/
theorem enterDraining_loop (fire : Bool) :
    (enterDraining fire false s).loop =
      { s.loop with
        st := .draining
        drain := some { fire, stopPending := false, drained := allEmpty s, travel := 0, revs := 0 }
        drainTimer :=
          if allEmpty s then none
          else if fire && s.loop.fireDrainPending then s.loop.drainTimer else some (inMs s (drainTimeout s fire))
        refStop := .none
        fireDrainPending := false
        exhausted := false
        creepDelay := none } := by
  unfold enterDraining
  rw [checkEmpty_loop (d := { fire, stopPending := false, drained := false, travel := 0, revs := 0 }) (by simp) (by simp)
    rfl rfl]
  simp [allEmpty]

/-- The entry to DRAINING reaches the loop and the shutters that follow it (R26). -/
theorem enterDraining_frame (fire stopPending : Bool) : OnlyChanges loopParts s (enterDraining fire stopPending s) := by
  simp [loopParts]

/-- While no programme is HELD, what ends the event after an entry to DRAINING is the service of the bridges. -/
theorem finish_enterDraining {fire stopPending : Bool} (hprog : s.prog.st ≠ .held) :
    finish (enterDraining fire stopPending s) = serveBridges (enterDraining fire stopPending s) := by
  apply finish_of_not_held
  rwa [OnlyChanges.prog_eq (enterDraining_frame fire stopPending) (by decide)]

/-! ### LOOP DRAIN (R33) -/

theorem exec_loopDrain : exec (.loopDrain tag) s = .next (request 0x14#8 tag ownLoopDrain (stamp s)) := rfl

theorem ownLoopDrain_running (hst : s.loop.st = .running) (hprog : s.prog.st ≠ .held) :
    ownLoopDrain s = (serveBridges (enterDraining false false s), .now .done []) := by
  simp [ownLoopDrain, takeDrain, hst, finish_enterDraining hprog]

theorem ownLoopDrain_done_unchanged
    (hst : s.loop.st ∈ [.referencing, .starting, .draining, .stopping, .braking, .creeping]) :
    ownLoopDrain s = (s, .now .done []) := by
  simp only [List.mem_cons, List.not_mem_nil, or_false] at hst
  rcases hst with h | h | h | h | h | h <;> simp [ownLoopDrain, takeDrain, h]

theorem ownLoopDrain_refused
    (hst : s.loop.st ∈ [.unconfigured, .unreferenced, .parked, .stoppedFoul, .faultStop]) :
    ownLoopDrain s = (s, .now .wrongState []) := by
  simp only [List.mem_cons, List.not_mem_nil, or_false] at hst
  rcases hst with h | h | h | h | h <;> simp [ownLoopDrain, takeDrain, h]

/-- Settles O18: LOOP DRAIN in RUNNING enters DRAINING; in every other state it only answers. -/
theorem loopDrainFromEachState : Obligations.LoopDrainFromEachState := by
  intro tag s hopen hprog
  refine ⟨_, exec_loopDrain, ?_⟩
  cases hst : s.loop.st with
  | running =>
    have hown := ownLoopDrain_running (s := closeFramer (stamp s)) hst hprog
    refine ⟨request_replied (ps := loopParts) hopen hown ?_ (by decide), ?_⟩
    · exact OnlyChanges.trans (enterDraining_frame false false) (OnlyChanges.mono serveBridges_frame (by decide))
    · rw [request_loop (s := stamp s) hopen hown, serveBridges_loop, enterDraining_loop]
      exact ⟨rfl, _, rfl, rfl, rfl, rfl, rfl, rfl, rfl⟩
  | referencing | starting | draining | stopping | braking | creeping =>
    exact request_only_answers hopen (ownLoopDrain_done_unchanged (by simp [hst]))
  | unconfigured | unreferenced | parked | stoppedFoul | faultStop =>
    exact request_only_answers hopen (ownLoopDrain_refused (by simp [hst]))

end Sys2Proof.Proofs
end

section
/-! The event queue only grows: what the closing programme does, at its end and in an arming after it, takes no record from
the queue (R195). Each operation is said once, over a state whose queue has already grown. -/

namespace Sys2Proof.Proofs

open Sys2Proof.Machine Sys2Proof.Safety Sys2Proof.Laws

variable {s u t : State}

/-- What leaves the event queue alone lets it stand as grown. -/
theorem grows_of_frame {ps : List Safety.Part} (h : Grows s u) (hframe : OnlyChanges ps u t) (hevents : Part.events ∉ ps) :
    Grows s t :=
  h.trans (Grows.of_eq (OnlyChanges.events_eq hframe hevents))

theorem queueEvent_grows {k : EventKind} {x : Option Nat} {d : Nat} (h : Grows s u) : Grows s (queueEvent k x d u) :=
  h.trans grows_queueEvent

theorem ite_grows {c : Prop} [Decidable c] (ht : Grows s t) (hu : Grows s u) : Grows s (if c then t else u) := by
  split
  · exact ht
  · exact hu

/-! ### Demands (R74, R75, R94) -/

theorem stopDrive_grows {i : Nat} (h : Grows s u) : Grows s (stopDrive i u) :=
  grows_of_frame (ps := grantParts) h (by simp [grantParts]) (by decide)

theorem abandonCheck_grows {i : Nat} (h : Grows s u) : Grows s (abandonCheck i u) :=
  grows_of_frame (ps := [.bridges]) h (by simp) (by decide)

theorem freeBridge_grows {b : Nat} (h : Grows s u) : Grows s (freeBridge b u) := by
  unfold freeBridge
  split
  · exact queueEvent_grows h
  · exact h

theorem endHold_grows {i : Nat} (h : Grows s u) : Grows s (endHold i u) := by
  unfold endHold
  split
  · exact h
  · split
    · exact freeBridge_grows h
    · exact h
    · exact h

theorem dropDemand_grows {i : Nat} (h : Grows s u) : Grows s (dropDemand i u) := by
  unfold dropDemand
  split
  · exact h
  · next d _ =>
    cases d.status with
    | heldByLoop | waitingBridge | dwelling | retryWait => exact h
    | checking => exact abandonCheck_grows h
    | moving | recovering => exact stopDrive_grows h
    | paused => exact endHold_grows (u := modShutter i _ u) h

theorem offerBridge_grows {i : Nat} (h : Grows s u) : Grows s (offerBridge i u) := by
  unfold offerBridge
  split
  · exact h
  · split
    · split
      · exact h.trans grows_holdByLoop
      · exact h.trans grows_toBridge
    · exact h.trans grows_toBridge

theorem replaceDemand_grows {i : Nat} {dir : DemandDir} {cls : DemandClass} {single : Bool} {old : Demand} (h : Grows s u) :
    Grows s (replaceDemand i dir cls single old u) := by
  have hstop : Grows s (stopDrive i u) := stopDrive_grows h
  unfold replaceDemand
  cases old.status with
  | heldByLoop | waitingBridge => exact offerBridge_grows (u := putDemand i dir cls single .waitingBridge u) h
  | retryWait => exact offerBridge_grows (u := putDemand i dir cls single .waitingBridge (modShutter i _ u)) h
  | checking =>
    have habandon : Grows s (abandonCheck i u) := abandonCheck_grows h
    refine ite_grows ?_ ?_
    · split
      · exact queueEvent_grows (u := setStatus i _ (putDemand i dir cls single _ (abandonCheck i u))) habandon
      · split <;> exact h
    · split <;> exact h
  | moving => exact ite_grows (c := old.dir = dir) h hstop
  | recovering => exact ite_grows (ite_grows hstop h) (ite_grows h h)
  | paused | dwelling => exact h

theorem placeDemand_grows {i : Nat} {dir : DemandDir} {cls : DemandClass} {single : Bool} (h : Grows s u) :
    Grows s (placeDemand i dir cls single u).1 := by
  unfold placeDemand
  split
  · split
    · exact h
    · split
      · exact dropDemand_grows h
      · split
        · exact h
        · exact replaceDemand_grows h
  · split
    · exact h
    · split
      · exact h
      · exact offerBridge_grows (u := putDemand i dir cls single .waitingBridge u) h

theorem offerDemand_grows {i : Nat} {dir : DemandDir} {cls : DemandClass} (h : Grows s u) :
    Grows s (offerDemand i dir cls u).1 := by
  unfold offerDemand
  split
  · exact h
  · exact placeDemand_grows h

/-- A fold that carries a state with what it has found lets the queue grow when each round does. -/
theorem foldl_grows {α β : Type} {f : State × β → α → State × β} (hf : ∀ r x, Grows s r.1 → Grows s (f r x).1)
    (xs : List α) {r : State × β} (h : Grows s r.1) : Grows s (xs.foldl f r).1 := by
  induction xs generalizing r with
  | nil => exact h
  | cons x xs ih => exact ih (hf r x h)

theorem offerAll_grows {ids : List Nat} {dir : DemandDir} {cls : DemandClass} (h : Grows s u) :
    Grows s (offerAll ids dir cls u).1 := by
  unfold offerAll
  refine foldl_grows (fun r i hr => ?_) ids h
  have hoffer : Grows s (offerDemand i dir cls r.1).1 := offerDemand_grows hr
  rcases e : offerDemand i dir cls r.1 with ⟨v, answer⟩
  rw [e] at hoffer
  cases answer <;> exact hoffer

/-! ### Drains and stops of the loop (R33, R34, R39 to R47) -/

theorem enterState_grows {st : LoopState} (h : Grows s u) : Grows s (enterState st u) := h.trans grows_enterState

theorem enterFoul_grows (h : Grows s u) : Grows s (enterFoul u) :=
  ite_grows (enterState_grows (u := modLoop _ u) h) (enterState_grows (queueEvent_grows (u := modLoop _ u) h))

theorem stopVerdict_grows (h : Grows s u) : Grows s (stopVerdict u) :=
  ite_grows (enterState_grows (queueEvent_grows (u := modLoop _ u) h))
    (enterFoul_grows (queueEvent_grows (u := modLoop _ u) h))

theorem enterBraking_grows (h : Grows s u) : Grows s (enterBraking u) :=
  ite_grows (stopVerdict_grows (enterState_grows h)) (enterState_grows h)

theorem checkCommand_grows (h : Grows s u) : Grows s (checkCommand u) := by
  unfold checkCommand
  split
  · exact ite_grows (enterBraking_grows h) h
  · exact h

theorem enterStopping_grows (h : Grows s u) : Grows s (enterStopping u) :=
  checkCommand_grows (enterState_grows (u := modLoop _ (ite _ _ u)) (ite_grows (queueEvent_grows h) h))

theorem completeDrain_grows {detail : Nat} (h : Grows s u) : Grows s (completeDrain detail u) := by
  unfold completeDrain
  split
  · exact h
  · have hdone {f : Loop → Loop} : Grows s (queueEvent .drainDone none detail (modLoop f u)) :=
      queueEvent_grows (u := modLoop f u) h
    exact ite_grows (enterStopping_grows hdone) hdone

theorem checkEmpty_grows (h : Grows s u) : Grows s (checkEmpty u) := by
  unfold checkEmpty
  split
  · exact ite_grows (completeDrain_grows h) h
  · exact h

theorem enterDraining_grows {fire stopPending : Bool} (h : Grows s u) : Grows s (enterDraining fire stopPending u) :=
  checkEmpty_grows (enterState_grows (u := modLoop _ u) h)

theorem takeDrain_grows (h : Grows s u) : Grows s (takeDrain u).1 := by
  unfold takeDrain
  cases u.loop.st with
  | running => exact enterDraining_grows h
  | _ => exact h

theorem takeStop_grows {force : Bool} (h : Grows s u) : Grows s (takeStop force u) := by
  unfold takeStop
  cases u.loop.st with
  | running =>
    cases force with
    | true => exact enterStopping_grows h
    | false => exact enterDraining_grows h
  | draining =>
    refine ite_grows (enterStopping_grows h) ?_
    split
    · exact h
    · exact ite_grows (enterStopping_grows (u := modLoop _ u) h) h
  | referencing => cases force <;> exact h
  | starting => exact enterBraking_grows (u := modLoop _ u) h
  | _ => exact h

/-! ### Announcements (R157 to R163) -/

theorem stopChannel_grows {ch : Chan} (h : Grows s u) : Grows s (stopChannel ch u) :=
  grows_of_frame (ps := [.announcer, .phrases]) h (by simp) (by decide)

theorem requestBlock_grows {ch : Chan} (h : Grows s u) : Grows s (requestBlock ch u) :=
  grows_of_frame (ps := [.announcer, .phrases]) h (by simp) (by decide)

theorem modChannel_grows {ch : Chan} {f : Channel → Channel} (h : Grows s u) : Grows s (modChannel ch f u) :=
  grows_of_frame (ps := [.announcer]) h (by simp) (by decide)

theorem markYields_grows {c : Candidate} (h : Grows s u) : Grows s (markYields c u) :=
  grows_of_frame (ps := [.announcer]) h (by simp) (by decide)

theorem beginUse_grows {p n : Nat} (h : Grows s u) (huse : beginUse p u = some (t, n)) : Grows s t :=
  grows_of_frame (ps := [.phrases]) h ((beginUse_only (by simp) huse).2 (OnlyChanges.refl _ _)) (by decide)

theorem yieldChannel_grows {ch : Chan} (h : Grows s u) : Grows s (yieldChannel ch u) := by
  have hstop : Grows s (stopChannel ch u) := stopChannel_grows h
  unfold yieldChannel
  split
  · exact h
  · exact ite_grows hstop (queueEvent_grows (u := removeRecord _ (stopChannel ch u)) hstop)

theorem passEnd_grows {ch : Chan} (h : Grows s u) : Grows s (passEnd ch u).1 := by
  unfold passEnd
  split
  · exact h
  · have hpass {f : Channel → Channel} : Grows s (modChannel ch f u) := modChannel_grows h
    dsimp only
    (repeat' split)
    · exact queueEvent_grows (u := removeRecord _ (stopChannel ch _)) (stopChannel_grows hpass)
    · exact yieldChannel_grows hpass
    · exact modChannel_grows hpass

theorem playFrom_grows {ch : Chan} {ps : List Nat} (h : Grows s u) : Grows s (playFrom ch ps u).1 := by
  induction ps generalizing u with
  | nil => exact passEnd_grows h
  | cons p rest ih =>
    unfold playFrom
    split
    · next huse => exact requestBlock_grows (modChannel_grows (beginUse_grows h huse))
    · have hskip {c : Prop} [Decidable c] {f g : Channel → Channel} {x : Option Nat} :
          Grows s (modChannel ch g (if c then u else modChannel ch f (queueEvent .phraseSkipped x p u))) :=
        modChannel_grows (ite_grows h (modChannel_grows (queueEvent_grows h)))
      dsimp only
      split
      · exact yieldChannel_grows hskip
      · exact ih hskip

theorem startOn_grows {ch : Chan} {c : Candidate} (h : Grows s u) : Grows s (startOn ch c u) :=
  playFrom_grows (modChannel_grows (u := routeTo ch c.zones u) h)

theorem startPass_grows {cs : List Candidate} (h : Grows s u) : Grows s (startPass cs u).1 := by
  induction cs generalizing u with
  | nil => exact h
  | cons c rest ih =>
    have hmark : Grows s (markYields c u) := markYields_grows h
    unfold startPass
    split
    · exact startOn_grows h
    · split
      · dsimp only
        split
        · have hfirst := ite_grows (c := yieldDue (markYields c u) .a) (yieldChannel_grows (ch := .a) hmark) hmark
          exact ite_grows (yieldChannel_grows hfirst) hfirst
        · exact ih hmark
      · exact ih h

theorem startRule_grows {fuel : Nat} (h : Grows s u) : Grows s (startRule fuel u) := by
  induction fuel generalizing u with
  | zero => exact h
  | succ fuel ih =>
    have hpass : Grows s (startPass (candidates u) u).1 := startPass_grows h
    unfold startRule
    split
    · next e => rw [e] at hpass; exact ih hpass
    · next e => rwa [e] at hpass

theorem enterRecord_grows {cls : AnnClass} {zones : Set8} {ps : List Nat} {repeats : Nat} (h : Grows s u) :
    Grows s (enterRecord cls zones ps repeats u).1 :=
  startRule_grows (u := modAnn _ u) h

theorem closingAnnouncement_grows {zones : Set8} {ps : List Nat} (h : Grows s u) :
    Grows s (closingAnnouncement zones ps u).1 := by
  unfold closingAnnouncement
  dsimp only
  split
  · exact h
  · split
    · exact enterRecord_grows h
    · split
      · exact enterRecord_grows (queueEvent_grows (u := removeRecord _ u) h)
      · exact h

/-! ### Closing steps, due steps, start and arming (R172 to R181) -/

theorem stepDone_grows {k : Nat} {a : StepAction} {info : DoneInfo} (h : Grows s u) : Grows s (stepDone k a info u) :=
  queueEvent_grows (u := setResult k (.done info) u) h

theorem stepSkipped_grows {k : Nat} {r : SkipReason} (h : Grows s u) : Grows s (stepSkipped k r u) :=
  queueEvent_grows (u := setResult k (.skipped r) u) h

theorem finishLoopStop_grows {k : Nat} {a : StepAction} {ok : Bool} (h : Grows s u) :
    Grows s (finishLoopStop k a ok u) :=
  ite_grows (stepDone_grows h) (stepSkipped_grows h)

theorem strokesOn_grows {n : Nat} {lines : List Nat} (h : Grows s u) : Grows s (strokesOn n lines u).1 :=
  grows_of_frame (ps := [.bells]) h (by simp) (by decide)

theorem beginStep_grows {k : Nat} {x : ClosingStep} (h : Grows s u) : Grows s (beginStep k x u).1 := by
  unfold beginStep
  split
  · exact stepSkipped_grows h
  · split
    case h_1 ps zs _ =>
      have hann : Grows s (closingAnnouncement zs ps u).1 := closingAnnouncement_grows h
      split
      · next e => rw [e] at hann; exact stepDone_grows hann
      · next e => rw [e] at hann; exact stepSkipped_grows hann
    case h_2 => exact stepDone_grows (strokesOn_grows h)
    case h_3 fs _ => exact stepDone_grows (u := lockFloors fs u) h
    case h_4 =>
      split
      · exact stepDone_grows (takeDrain_grows h)
      · exact stepSkipped_grows h
    case h_5 =>
      have hstop : Grows s (takeStop false u) := takeStop_grows h
      dsimp only
      split
      · exact finishLoopStop_grows hstop
      · exact hstop
    case h_6 g _ _ =>
      have hoffer : Grows s (offerAll (groupShutters u g) .close .closing u).1 := offerAll_grows h
      dsimp only
      split
      · exact stepDone_grows hoffer
      · exact hoffer

theorem takeDue_grows {slots : List Nat} (h : Grows s u) : Grows s (takeDue slots u) := by
  induction slots generalizing u with
  | nil => exact queueEvent_grows (u := enterComplete u) h
  | cons k rest ih =>
    unfold takeDue
    split
    · exact ih h
    · next x _ =>
      have hstep : Grows s (beginStep k x u).1 := beginStep_grows h
      split
      · split
        · next e => rw [e] at hstep; exact ih hstep
        · next e => rwa [e] at hstep
      · exact h

theorem startProgramme_grows {subject : Nat} (h : Grows s u) : Grows s (startProgramme subject u) :=
  ite_grows (queueEvent_grows (u := modProg _ u) h)
    (ite_grows (queueEvent_grows (u := enterComplete u) h) (takeDue_grows (queueEvent_grows (u := modProg _ u) h)))

theorem startTest_grows (h : Grows s u) : Grows s (startTest u) := ite_grows (startProgramme_grows h) h

theorem settleEnd_grows (h : Grows s u) : Grows s (settleEnd u) :=
  ite_grows (startTest_grows (u := armCore u) h) h

theorem resumeAfter_grows {k : Nat} (h : Grows s u) : Grows s (resumeAfter k u) :=
  settleEnd_grows (takeDue_grows (u := modProg _ u) h)

theorem pollHold_grows (h : Grows s u) : Grows s (pollHold u) := by
  unfold pollHold
  split
  · exact h
  · split
    · exact ite_grows (resumeAfter_grows (stepDone_grows h)) h
    · split
      · exact resumeAfter_grows (finishLoopStop_grows h)
      · exact h

theorem finish_grows (h : Grows s u) : Grows s (finish u) := (pollHold_grows h).trans grows_serveBridges

end Sys2Proof.Proofs
end

section
/-! CLOSING ABORT (section 9.5): what the service of the bridges leaves of a demand, what the abort leaves in the programme,
and the request from each programme state. -/

namespace Sys2Proof.Proofs

open Sys2Proof.Machine Sys2Proof.Safety Sys2Proof.Laws

variable {s t u v : State} {tag : Byte}

/-! ### Grants change only the status of a demand (R102, R103) -/

/-- Every demand of `s` stands in `t`, perhaps with another status. -/
def KeepsDemands (s t : State) : Prop :=
  ∀ i d, demandOf s i = some d → ∃ e, demandOf t i = some e ∧ e.dir = d.dir ∧ e.cls = d.cls

theorem KeepsDemands.of_eq (h : t.shutters = s.shutters) : KeepsDemands s t :=
  fun i d hd => ⟨d, by rw [← hd, demandOf, demandOf, shutterAt, shutterAt, h], rfl, rfl⟩

theorem KeepsDemands.trans (h : KeepsDemands s t) (k : KeepsDemands t u) : KeepsDemands s u := by
  intro i d hd
  obtain ⟨e, he, hdir, hcls⟩ := h i d hd
  obtain ⟨f, hf, hdir', hcls'⟩ := k i e he
  exact ⟨f, hf, hdir'.trans hdir, hcls'.trans hcls⟩

theorem demandOf_setStatus {i j : Nat} {st : DemandStatus} :
    demandOf (setStatus i st s) j =
      if j = i then (demandOf s j).map (fun d => { d with status := st }) else demandOf s j := by
  by_cases hj : j = i
  · subst hj
    by_cases hlt : j < s.shutters.items.length
    · simp [demandOf, setStatus, shutterAt, Tab.put, hlt]
    · simp [demandOf, setStatus, shutterAt, Tab.put, hlt, Shutter.idle]
  · simp [demandOf, setStatus, shutterAt, Tab.put, hj, List.getD_eq_getElem?_getD, List.getElem?_set_ne (Ne.symm hj)]

theorem keepsDemands_setStatus {i : Nat} {st : DemandStatus} : KeepsDemands s (setStatus i st s) := by
  intro j d hd
  rw [demandOf_setStatus, hd]
  split
  · exact ⟨_, rfl, rfl, rfl⟩
  · exact ⟨d, rfl, rfl, rfl⟩

theorem keepsDemands_grant {i b : Nat} : KeepsDemands s (grant i b s) :=
  keepsDemands_setStatus.trans (.of_eq rfl)

theorem keepsDemands_serveQueue (fuel : Nat) : KeepsDemands s (serveQueue fuel s) := by
  induction fuel generalizing s with
  | zero => exact .of_eq rfl
  | succ fuel ih =>
    unfold serveQueue
    split
    · exact .of_eq rfl
    · split
      · exact .of_eq rfl
      · split
        · exact keepsDemands_grant.trans ih
        · split
          · split
            · exact keepsDemands_grant.trans ih
            · exact .of_eq rfl
          · exact .of_eq rfl

theorem startSweep_shutters : (startSweep s).shutters = s.shutters := by
  have hframe : OnlyChanges [.bridges] s (startSweep s) := by simp
  exact (hframe .shutters).resolve_left (by decide)

theorem keepsDemands_serveBridges : KeepsDemands s (serveBridges s) :=
  (keepsDemands_serveQueue 8).trans (.of_eq startSweep_shutters)

/-! ### The abort (R181, R184) -/

/-- A programme that took no midnight ends without an arming (R181, log entry 25). -/
theorem settleEnd_of_not_past (h : s.prog.pastMidnight = false) : settleEnd s = s := by
  simp [settleEnd, h]

/-- R184: only the state, the hold and the results of the programme change. -/
theorem abortProgramme_prog {c : AbortCause} :
    (abortProgramme c s).prog =
      { s.prog with st := .aborted, hold := none, watch := none, results := (abortProgramme c s).prog.results } := by
  unfold abortProgramme
  dsimp only
  (repeat' split) <;> simp [setResult]

/-- What an entry of a table reads as after a write. -/
theorem tab_get_put {n : Nat} {α : Type} [Inhabited α] {tab : Tab n α} {j k : Nat} {x : α} (hk : k < n) :
    (tab.put j x).get k = if j = k then x else tab.get k := by
  have hlen : k < tab.items.length := hk.trans_eq tab.size.symm
  simp only [Tab.get, Tab.put, List.getD_eq_getElem?_getD, List.getElem?_set]
  split <;> simp [*]

/-- R184: the result of a step that was HELD becomes ABORTED. -/
theorem abortProgramme_results {k : Nat} (hk : k < 16) :
    (abortProgramme .host s).prog.results.get k =
      if s.prog.st = .held ∧ s.prog.next = some k then .aborted else s.prog.results.get k := by
  unfold abortProgramme
  split
  · next j hst hnext => simp [setResult, hst, hnext, tab_get_put hk]
  · next hidle =>
    have hnone : ¬ (s.prog.st = .held ∧ s.prog.next = some k) := fun ⟨hst, hnext⟩ => hidle k hst hnext
    simp [hnone]

/-- R184: CLOSING_ABORTED is queued with the next step as subject and the cause as detail. -/
theorem abortProgramme_queued {c : AbortCause} {r : State} (he : r.link.events = s.link.events) (hc : r.clock = s.clock)
    (hg : Grows (abortProgramme c r) t) : Queued .closingAborted r.prog.next c.code s t := by
  unfold abortProgramme at hg
  refine queued_of_grows ?_ ?_ hg <;> (repeat' split) <;> assumption

theorem abortProgramme_shutters {c : AbortCause} : (abortProgramme c s).shutters = s.shutters := by
  have hframe : OnlyChanges [.programme, .events] s (abortProgramme c s) := by simp
  exact (hframe .shutters).resolve_left (by decide)

/-! ### CLOSING ABORT (R184) -/

theorem exec_closingAbort : exec (.closingAbort tag) s = .next (request 0x54#8 tag ownClosingAbort (stamp s)) := rfl

theorem ownClosingAbort_refused (h : programmeRuns s = false) : ownClosingAbort s = (s, .now .wrongState []) := by
  simp [ownClosingAbort, h]

theorem ownClosingAbort_done (h : programmeRuns s = true) :
    ownClosingAbort s = (finish (settleEnd (abortProgramme .host s)), .now .done []) := by
  simp [ownClosingAbort, finishing, h]

/-- R184 without a midnight taken: the programme is ABORTED with its held step, the bridges are served, and every demand
stands. -/
theorem abort_of_not_past (hpast : s.prog.pastMidnight = false)
    (hv : finish (settleEnd (abortProgramme .host s)) = v) :
    v.prog = { s.prog with st := .aborted, hold := none, watch := none, results := v.prog.results } ∧
      (∀ k < 16, v.prog.results.get k =
        if s.prog.st = .held ∧ s.prog.next = some k then .aborted else s.prog.results.get k) ∧
      OnlyChanges [.programme, .events, .shutters, .bridges] s v ∧ KeepsDemands s v := by
  have hserved : serveBridges (abortProgramme .host s) = v := by
    rw [← hv, settleEnd_of_not_past (by rw [abortProgramme_prog]; exact hpast),
      finish_of_not_held (by rw [abortProgramme_prog]; simp)]
  have hprog : v.prog = (abortProgramme .host s).prog := by rw [← hserved, serveBridges_prog]
  refine ⟨?_, ?_, ?_, ?_⟩
  · rw [hprog]; exact abortProgramme_prog
  · rw [hprog]; exact fun k hk => abortProgramme_results hk
  · rw [← hserved]; simp
  · rw [← hserved]; exact (KeepsDemands.of_eq abortProgramme_shutters).trans keepsDemands_serveBridges

/-- Settles O52: where no programme runs the request is refused; otherwise CLOSING_ABORTED is the first event queued,
whatever an arming after it queues, and with no midnight taken only the service of the bridges follows. -/
theorem closingAbortEndsTheProgramme : Obligations.ClosingAbortEndsTheProgramme := by
  intro tag s hopen
  constructor
  · intro hruns
    exact ⟨_, exec_closingAbort, request_only_answers hopen (ownClosingAbort_refused (s := closeFramer (stamp s)) hruns)⟩
  · intro hruns
    have hown := ownClosingAbort_done (s := closeFramer (stamp s)) hruns
    generalize hv : finish (settleEnd (abortProgramme .host (closeFramer (stamp s)))) = v at hown
    have hframe : OnlyChanges stepParts (closeFramer (stamp s)) v := by rw [← hv]; simp [stepParts]
    refine ⟨_, exec_closingAbort, request_replied hopen hown hframe (by decide), ?_⟩
    rw [request_answered (s := stamp s) hopen hown]
    constructor
    · have hgrows : Grows (abortProgramme .host (closeFramer (stamp s))) v := by
        rw [← hv]; exact finish_grows (settleEnd_grows (Grows.refl _))
      exact abortProgramme_queued (r := closeFramer (stamp s)) (c := .host) rfl rfl hgrows
    · intro hpast
      obtain ⟨hprog, hresults, hparts, hdemands⟩ := abort_of_not_past (s := closeFramer (stamp s)) hpast hv
      refine ⟨hprog, hresults, ?_, fun i _ => hdemands i⟩
      have hwide := OnlyChanges.mono hparts (qs := [.line, .programme, .events, .shutters, .bridges]) (by decide)
      have hopened : OnlyChanges [.line, .programme, .events, .shutters, .bridges] s (closeFramer (stamp s)) := by simp
      simpa using OnlyChanges.trans hopened hwide

end Sys2Proof.Proofs
end
